-- ==== Sys2Proof/Word.lean ====
section
/-! DEFINITION. The bit-vector types of the values the manual carries as bits. -/
namespace Sys2Proof

/-- A byte of a frame: an address, a tag, a code, a generation or a notice number (R183, R187). -/
abbrev Byte := BitVec 8

/-- A 16-bit value: a register address, a sequence, session or bank generation number, a budget (R187). -/
abbrev Half := BitVec 16

/-- A 32-bit value that wraps: an epoch number, a log sequence number or a counter (00_scope, Counters). -/
abbrev Count := BitVec 32

/-- A set of the thirteen event kinds, one bit each in the order of R188. -/
abbrev EventSet := BitVec 13

end Sys2Proof
end

