-- ==== Sys2Proof/Config.lean ====
section
/-! DEFINITION. What the manual fixes for every part, what the board fixes, and the free values. -/
namespace Sys2Proof

/-- Entries of the transaction table (R1). -/
abbrev Config.entries : Nat := 32

/-- Slots of a rule bank (R23). -/
abbrev Config.bankSlots : Nat := 128

/-- Slots of the fallback table (R24). -/
abbrev Config.fallbackSlots : Nat := 8

/-- Meters of the Meter Set (R74). -/
abbrev Config.meters : Nat := 16

/-- Counters of the Counter Set (R179). -/
abbrev Config.counters : Nat := 26

/-- Capacity of the hold queue (R46). -/
abbrev Config.holdCapacity : Nat := 16

/-- Capacity of the Reply queue (R172). -/
abbrev Config.replyCapacity : Nat := 4

/-- Capacity of the Admission refusal queue (R5, R172). -/
abbrev Config.refusalCapacity : Nat := 4

/-- Capacity of the Capture Log (R96). -/
abbrev Config.logCapacity : Nat := 256

/-- Consecutive valid idle symbols that take a SYNCING port to UP (R168). -/
abbrev Config.idleRunForUp : Nat := 16

/-- The most bytes a frame carries between its delimiters (R170, R183). -/
abbrev Config.frameBytes : Nat := 79

/-- The most payload bytes in one frame of a reply (R186). -/
abbrev Config.payloadRun : Nat := 67

/-- The epoch length in force in mode FALLBACK, in µs (R65). -/
abbrev Config.fallbackEpochLength : Nat := 10000

/-- The vendor code PROBE reports (R187, R191). -/
abbrev Config.vendorCode : Nat := 0x54C1

/-- The part code PROBE reports (R187, R191). -/
abbrev Config.partCode : Nat := 0x0318

/-- The revision PROBE reports (R191). -/
abbrev Config.revision : Nat := 1

/-- The level of the address straps that the reset state was sampled from.
DESIGN CHOICE (log 5), unsafe: the straps are the board's. -/
abbrev Config.resetAddressStraps : BitVec 6 := 1

/-- FREE VALUE (log 2): which of several expiries due at one time is taken first.
The manual gives the outcome for either order and fixes none; the argument is State's choice index. -/
opaque Config.expiryChoice : Nat → Nat

end Sys2Proof
end

