-- ==== Sys2Proof/Syntax.lean ====
section
/-! DEFINITION. The commands of the block: one constructor for each row of spec/opcode_table.json. -/
namespace Sys2Proof

/-- The two ports (00_scope, "Where the part sits"). -/
inductive PortName where
  | station
  | node
  deriving DecidableEq, Repr

/-- What a request asks of its node (R1). -/
inductive Operation where
  | read
  | write
  | exec
  deriving DecidableEq, Repr

/-- The operation of a REQUEST with the data that belongs to it (R1, R184):
a READ carries the count of bytes wanted, a WRITE its data bytes, an EXEC its argument bytes. -/
inductive RequestBody where
  | read (wanted : Byte)
  | write (data : List Byte)
  | exec (arguments : List Byte)
  deriving DecidableEq, Repr

/-- A REQUEST: source (station), destination (node), tag, register address or node command code, body (R1, R4). -/
structure Request where
  station : Byte
  node : Byte
  tag : Byte
  register : Half
  body : RequestBody
  deriving DecidableEq, Repr

/-- The status a node answers with (R184). -/
inductive NodeStatus where
  | ok
  | nodeError
  | refused
  deriving DecidableEq, Repr

/-- A node's RESPONSE: destination (station), source (node), tag, status, detail code and data (R11). -/
structure Response where
  station : Byte
  node : Byte
  tag : Byte
  status : NodeStatus
  detail : Byte
  data : List Byte
  deriving DecidableEq, Repr

/-- An arrival stamp: the Epoch Timer's epoch number and offset at a start delimiter (R68). -/
structure Stamp where
  epoch : Count
  offset : Nat
  deriving DecidableEq, Repr

/-- The symbols other than a valid idle symbol that a line interface reports (R168, R170). -/
inductive LineSymbol where
  | startDelimiter
  | byte (b : Byte)
  | endDelimiter
  | invalid
  deriving DecidableEq, Repr

/-- The four reception checks, in the order of R170. -/
inductive FrameCheck where
  | length
  | checkSequence
  | addresses
  | kindForPort
  deriving DecidableEq, Repr

/-- The START strap: a low level is *open*, a high level *guarded* (R153). -/
inductive StartStrap where
  | opened
  | guarded
  deriving DecidableEq, Repr

/-- A transition of SYNC_IN; only low to high is a SYNC_IN edge (R71). -/
inductive SyncTransition where
  | lowToHigh
  | highToLow
  deriving DecidableEq, Repr

/-- What a COMMAND frame carries besides its code and arguments; its destination is the own address (R130, R185). -/
structure CommandHeader where
  source : Byte
  tag : Byte
  sequence : Half
  deriving DecidableEq, Repr

/-- The commands: every row of spec/opcode_table.json.
The rows for COMMAND frames carry the header and the argument bytes, laid out as R185 states. -/
inductive Instr where
  | rstNAsserted
  | powerOnReset (straps : BitVec 6) (start : StartStrap)
  | signalDetected (p : PortName)
  | validIdleSymbol (p : PortName)
  | otherSymbol (p : PortName) (symbol : LineSymbol)
  | lossOfSignal (p : PortName)
  | frameRejected (p : PortName) (failed : FrameCheck)
  | requestArrival (request : Request) (stamp : Stamp)
  | responseArrival (response : Response)
  | responseDeadlineExpiry (entry : Fin Config.entries)
  | nodeTransmitComplete
  | sPortTransmitComplete
  | holdDeadlineExpiry (entry : Fin Config.entries)
  | epochBoundary
  | syncInEdge (transition : SyncTransition)
  | livenessExpiry
  | noticeRetryExpiry
  | probe (h : CommandHeader) (args : List Byte)
  | openSession (h : CommandHeader) (args : List Byte)
  | closeSession (h : CommandHeader) (args : List Byte)
  | keepalive (h : CommandHeader) (args : List Byte)
  | resetPart (h : CommandHeader) (args : List Byte)
  | unknownCommand (code : Byte) (h : CommandHeader) (args : List Byte)
  | getStatus (h : CommandHeader) (args : List Byte)
  | clearEvents (h : CommandHeader) (args : List Byte)
  | setEvents (h : CommandHeader) (args : List Byte)
  | ackNotice (h : CommandHeader) (args : List Byte)
  | setNoticeRetry (h : CommandHeader) (args : List Byte)
  | setLiveness (h : CommandHeader) (args : List Byte)
  | enterFallback (h : CommandHeader) (args : List Byte)
  | resume (h : CommandHeader) (args : List Byte)
  | writeRule (h : CommandHeader) (args : List Byte)
  | eraseRule (h : CommandHeader) (args : List Byte)
  | clearShadow (h : CommandHeader) (args : List Byte)
  | copyActiveToShadow (h : CommandHeader) (args : List Byte)
  | writeBankParams (h : CommandHeader) (args : List Byte)
  | readRule (h : CommandHeader) (args : List Byte)
  | readBankParams (h : CommandHeader) (args : List Byte)
  | writeFallbackRule (h : CommandHeader) (args : List Byte)
  | eraseFallbackRule (h : CommandHeader) (args : List Byte)
  | writeFallbackParams (h : CommandHeader) (args : List Byte)
  | readFallback (h : CommandHeader) (args : List Byte)
  | commit (h : CommandHeader) (args : List Byte)
  | abortCommit (h : CommandHeader) (args : List Byte)
  | listHolds (h : CommandHeader) (args : List Byte)
  | release (h : CommandHeader) (args : List Byte)
  | deny (h : CommandHeader) (args : List Byte)
  | readMeters (h : CommandHeader) (args : List Byte)
  | getTime (h : CommandHeader) (args : List Byte)
  | alignEpoch (h : CommandHeader) (args : List Byte)
  | setSync (h : CommandHeader) (args : List Byte)
  | readLog (h : CommandHeader) (args : List Byte)
  | setLog (h : CommandHeader) (args : List Byte)
  | readCounters (h : CommandHeader) (args : List Byte)
  deriving DecidableEq, Repr

end Sys2Proof
end

