-- ==== Sys2Proof/Decode.lean ====
section
/-! DEFINITION. The command a word spells by the bits of spec/opcode_table.json.
No row of the table gives bits, so no word spells a command. The bytes of frames are read in Machine/Frames.lean. -/
namespace Sys2Proof

/-- No row of the opcode table has bits: every word is refused. -/
def decodeTableWord (_nbits _w : Nat) : Option Instr := none

end Sys2Proof
end

