-- ==== Sys2Proof/Machine/Blocks.lean ====
section
/-! DEFINITION. The data each block of the part holds: enumerated values, records, queues and tables. -/
namespace Sys2Proof.Machine

/-- The index of an entry of the transaction table (R1). -/
abbrev EntryIndex := Fin Config.entries

/-! ### Enumerated values -/

/-- The causes a refusal carries (R9). -/
inductive RefusalCause where
  | badTarget
  | tagInUse
  | tableFull
  | rule
  | meter
  | holdFull
  | holdDenied
  | holdExpired
  | noResponse
  | linkDown
  deriving DecidableEq, Repr

/-- The two modes (R152). -/
inductive Mode where
  | governed
  | fallback
  deriving DecidableEq, Repr

/-- What a table does with a request no rule matches (R23, R29). -/
inductive MissAction where
  | pass
  | refuse
  | passReads
  deriving DecidableEq, Repr

/-- What a METER decision does over budget (R23, R35). -/
inductive ExceedAction where
  | refuse
  | passFlagged
  deriving DecidableEq, Repr

/-- PASS or REFUSE: a hold default (R25) and a fallback rule's action (R26). -/
inductive PassRefuse where
  | pass
  | refuse
  deriving DecidableEq, Repr

/-- How much the Capture Log records of a request (R20). -/
inductive LogLevel where
  | none
  | decision
  | pair
  deriving DecidableEq, Repr

/-- The decision field of an entry (R1). -/
inductive Decision where
  | pass
  | refuse
  | hold
  | meter
  deriving DecidableEq, Repr

/-- The decision field of a DECISION record: the outcome (R31, R97). -/
inductive LoggedDecision where
  | pass
  | refuse
  | hold
  deriving DecidableEq, Repr

/-- The table that decided a request (R1): the active bank with its generation, or the fallback table. -/
inductive TableId where
  | active (generation : Half)
  | fallback
  deriving DecidableEq, Repr

/-- The sync modes (R70). -/
inductive SyncMode where
  | off
  | capture
  | restart
  deriving DecidableEq, Repr

/-- The commit states (R79). -/
inductive CommitState where
  | idle
  | pending
  deriving DecidableEq, Repr

/-- What the Capture Log does when full (R96). -/
inductive LogMode where
  | wrap
  | stop
  deriving DecidableEq, Repr

/-- The causes of a mode change (R98). -/
inductive ModeCause where
  | liveness
  | command
  | resume
  deriving DecidableEq, Repr

/-- The causes of a fallback entry (R163). -/
inductive FallbackCause where
  | liveness
  | command
  deriving DecidableEq, Repr

/-- The last reset (R21, R22). -/
inductive ResetKind where
  | powerOn
  | management
  deriving DecidableEq, Repr

/-- The two banks management can name (R40). -/
inductive BankName where
  | active
  | shadow
  deriving DecidableEq, Repr

/-- The groups of the Counter Set (R179). -/
inductive CounterGroup where
  | traffic
  | outcomes
  deriving DecidableEq, Repr

/-- The thirteen event kinds (R111). -/
inductive EventKind where
  | holdWaiting
  | holdExpired
  | holdOverflow
  | responseTimeout
  | strayResponse
  | meterExceeded
  | logThreshold
  | logLoss
  | commitApplied
  | linkChange
  | admissionFull
  | livenessWarning
  | fallbackEntered
  deriving DecidableEq, Repr

/-- The 26 counters (R179). -/
inductive Counter where
  | framesAccepted (p : PortName)
  | checkFailures (p : PortName)
  | malformed (p : PortName)
  | wrongKind (p : PortName)
  | requestsAdmitted
  | refusalsDropped
  | strays
  | answersDiscarded
  | managementOverruns
  | refusals (c : RefusalCause)
  | commitsApplied
  | commitsCancelled
  | logRecordsLost
  deriving DecidableEq, Repr

/-- The commands of the catalogue (section 8.11, R185). -/
inductive CommandName where
  | probe
  | openSession
  | closeSession
  | keepalive
  | resetPart
  | getStatus
  | clearEvents
  | setEvents
  | ackNotice
  | setNoticeRetry
  | setLiveness
  | enterFallback
  | resume
  | writeRule
  | eraseRule
  | clearShadow
  | copyActiveToShadow
  | writeBankParams
  | readRule
  | readBankParams
  | writeFallbackRule
  | eraseFallbackRule
  | writeFallbackParams
  | readFallback
  | commit
  | abortCommit
  | listHolds
  | release
  | deny
  | readMeters
  | getTime
  | alignEpoch
  | setSync
  | readLog
  | setLog
  | readCounters
  deriving DecidableEq, Repr

/-- The result codes (section 8.7, R186). -/
inductive ResultCode where
  | done
  | accepted
  | opened
  | sessionBusy
  | noSession
  | notOwner
  | sequenceError
  | badCommand
  | badField
  | commitPending
  | nothingPending
  | commitRejected
  | notHeld
  | staleNotice
  | inFallback
  | notInFallback
  deriving DecidableEq, Repr

/-! ### Rules and banks -/

/-- A non-empty subset of READ, WRITE, EXEC (R25). -/
structure OperationSet where
  read : Bool
  write : Bool
  exec : Bool
  deriving DecidableEq, Repr

/-- The part of a rule that a bank rule and a fallback rule share (R25, R26). -/
structure Selector where
  nodeLow : Byte
  nodeHigh : Byte
  operations : OperationSet
  registerLow : Half
  registerHigh : Half
  stations : Option (List Byte)
  deriving DecidableEq, Repr

/-- A window of epoch offsets, in µs (R25). -/
structure Window where
  openOffset : Nat
  closeOffset : Nat
  deriving DecidableEq, Repr

/-- A rule's action with the fields present for it (R25). -/
inductive RuleAction where
  | pass
  | refuse
  | hold (limit : Nat) (default : PassRefuse)
  | meter (m : Fin Config.meters)
  deriving DecidableEq, Repr

/-- A rule of the active or shadow bank (R25). -/
structure Rule where
  selector : Selector
  window : Option Window
  action : RuleAction
  logLevel : LogLevel
  deriving DecidableEq, Repr

/-- A rule of the fallback table, in the restricted form of R26. -/
structure FallbackRule where
  selector : Selector
  action : PassRefuse
  logLevel : LogLevel
  deriving DecidableEq, Repr

/-- A meter's settings, held by a bank (R23). -/
structure MeterSetting where
  budget : Half
  exceed : ExceedAction
  deriving DecidableEq, Repr

/-- The parameters of a bank (R23); times in ms and µs. -/
structure BankParams where
  missAction : MissAction
  missLogging : Bool
  responseTimeout : Nat
  epochLength : Nat
  meters : Vector MeterSetting Config.meters
  deriving DecidableEq, Repr

/-- A rule bank: slots and parameters travel together (R23). -/
structure Bank where
  slots : Vector (Option Rule) Config.bankSlots
  params : BankParams
  deriving DecidableEq, Repr

/-- The fallback table (R24). -/
structure FallbackTable where
  slots : Vector (Option FallbackRule) Config.fallbackSlots
  missAction : MissAction
  responseTimeout : Nat
  deriving DecidableEq, Repr

/-! ### The transaction table -/

/-- A decided request: the fields of R1 that an entry holds from admission and classification. -/
structure Txn where
  request : Request
  arrivalOffset : Nat
  tableUsed : TableId
  ruleSlot : Option Nat
  decision : Decision
  logLevel : LogLevel
  responseTimeout : Nat
  deriving DecidableEq, Repr

/-- The hold fields of a HELD entry (R1, R47): limit in ms, default, deadline in µs of running time. -/
structure Hold where
  limit : Nat
  default : PassRefuse
  deadline : Nat
  deriving DecidableEq, Repr

/-- An entry's answer (R1): the node's response, or a refusal cause. -/
inductive Answer where
  | node (status : NodeStatus) (detail : Byte) (data : List Byte)
  | refusal (cause : RefusalCause)
  deriving DecidableEq, Repr

/-- The five states with the fields present in each (R1, R3). -/
inductive EntryState where
  | free
  | held (t : Txn) (hold : Hold)
  | queued (t : Txn)
  | inFlight (t : Txn) (deadline : Nat)
  | returning (t : Txn) (answer : Answer)
  deriving DecidableEq, Repr

/-- An entry of the transaction table (R1). -/
structure Entry where
  generation : Byte
  state : EntryState
  deriving DecidableEq, Repr

/-- The reset-cause record (R21, R22). -/
structure ResetCause where
  cause : ResetKind
  discarded : Nat
  deriving DecidableEq, Repr

/-- A hold reference: an entry's index and generation (R46). -/
structure HoldRef where
  index : EntryIndex
  generation : Byte
  deriving DecidableEq, Repr

/-! ### Time, meters, commit -/

/-- The Epoch Timer (R64); the offset in µs. -/
structure EpochTimer where
  number : Count
  offset : Nat
  sync : SyncMode
  capture : Option Stamp
  deriving DecidableEq, Repr

/-- The counts of one meter (R74). -/
structure Meter where
  consumed : Half
  exceed : Count
  deriving DecidableEq, Repr

/-- Commit Control (R79). -/
structure CommitControl where
  state : CommitState
  generation : Half
  deriving DecidableEq, Repr

/-! ### The Capture Log -/

/-- The kinds of log record (R97). -/
inductive RecordKind where
  | decision
  | released
  | denied
  | holdExpired
  | completed
  | timedOut
  | linkDownAnswer
  | admissionRefused
  | stray
  | modeChange
  | commitApplied
  deriving DecidableEq, Repr

/-- The cause field of a log record (R97). -/
inductive RecordCause where
  | refusal (c : RefusalCause)
  | nodeStatus (n : NodeStatus)
  | modeChange (m : ModeCause)
  deriving DecidableEq, Repr

/-- The station, node and tag a record names (R97). -/
structure Parties where
  station : Byte
  node : Byte
  tag : Byte
  deriving DecidableEq, Repr

/-- The operation and register address a record names (R97). -/
structure Access where
  operation : Operation
  register : Half
  deriving DecidableEq, Repr

/-- The meter a DECISION record names, with its *exceeded* mark (R97). -/
structure MeterMark where
  meter : Fin Config.meters
  exceeded : Bool
  deriving DecidableEq, Repr

/-- The fields a block gives a record (R97, R98). -/
structure RecordBody where
  kind : RecordKind
  parties : Option Parties
  access : Option Access
  table : TableId
  decision : Option LoggedDecision
  ruleSlot : Option Nat
  meter : Option MeterMark
  byFallback : Bool
  cause : Option RecordCause
  snippet : List Byte
  deriving DecidableEq, Repr

/-- A log record: the number and time the log gives it (R99), and its fields. -/
structure LogRecord where
  sequence : Count
  epoch : Count
  offset : Nat
  body : RecordBody
  deriving DecidableEq, Repr

/-- The Capture Log (R96); the fill is the number of records. -/
structure CaptureLog where
  records : List LogRecord
  nextSequence : Count
  mode : LogMode
  threshold : Nat
  refusalLogging : Bool
  strayLogging : Bool
  lostCount : Count
  deriving DecidableEq, Repr

/-! ### Events and notices -/

/-- The statuses, enables and routes of the event kinds; a bit of line set means route LINE (R111). -/
structure EventUnit where
  status : EventSet
  enable : EventSet
  line : EventSet
  deriving DecidableEq, Repr

/-- The notice sender's state; the retry timer runs exactly while AWAITING_ACK (R117). -/
inductive NoticeState where
  | idle
  | awaitingAck (retryDeadline : Nat)
  deriving DecidableEq, Repr

/-- The notice sender (R117); the interval in units of 10 ms. -/
structure NoticeSender where
  state : NoticeState
  number : Byte
  interval : Nat
  deriving DecidableEq, Repr

/-- A NOTICE frame's content (R118, R188). -/
structure Notice where
  destination : Byte
  number : Byte
  events : EventSet
  holds : Nat
  fill : Nat
  mode : Mode
  commit : CommitState
  deriving DecidableEq, Repr

/-! ### The session -/

/-- A REPLY (R130, R186): destination, tag, echoed code and sequence number, result, whole payload. -/
structure Reply where
  destination : Byte
  tag : Byte
  code : Byte
  sequence : Half
  result : ResultCode
  payload : List Byte
  deriving DecidableEq, Repr

/-- The last accepted sequence and the reply cache: present together (R127, R137, R141). -/
structure LastCommand where
  sequence : Half
  reply : Reply
  deriving DecidableEq, Repr

/-- The items of the session record present while a session is open (R127). -/
structure OpenSession where
  owner : Byte
  expected : Half
  last : Option LastCommand
  deriving DecidableEq, Repr

/-- The session record (R127); the state is CLOSED when current is absent. -/
structure SessionRecord where
  current : Option OpenSession
  number : Half
  resetAwaited : Bool
  deriving DecidableEq, Repr

/-! ### Mode Control -/

/-- The liveness timer's state with its deadline (R155). -/
inductive LivenessState where
  | disarmed
  | running (deadline : Nat)
  | warned (deadline : Nat)
  deriving DecidableEq, Repr

/-- The fallback record (R163). -/
structure FallbackRecord where
  count : Nat
  lastCause : Option FallbackCause
  epochAtEntry : Option Count
  deriving DecidableEq, Repr

/-- Mode Control (chapter 9); the period in units of 100 ms. -/
structure ModeControl where
  mode : Mode
  liveness : LivenessState
  period : Nat
  fallbackRecord : FallbackRecord
  ownAddress : Byte
  strapFault : Bool
  start : StartStrap
  deriving DecidableEq, Repr

/-! ### The ports -/

/-- A frame under reception: its arrival stamp and the bytes so far (R68, R170). -/
structure Reception where
  stamp : Stamp
  bytes : List Byte
  deriving DecidableEq, Repr

/-- A port's link state (R168); a frame is received only while UP. -/
inductive Link where
  | down
  | syncing (idleRun : Nat)
  | up (reception : Option Reception)
  deriving DecidableEq, Repr

/-- What the S-port transmitter is sending: the head of one of its queues (R173);
for a reply, which part of it (R186). -/
inductive Sending where
  | reply (part : Nat)
  | notice
  | answer
  | refusal
  deriving DecidableEq, Repr

/-- A refusal built at admission (R5). -/
structure AdmissionRefusal where
  station : Byte
  tag : Byte
  cause : RefusalCause
  deriving DecidableEq, Repr

/-- The Station Port (R168, R172, R173). -/
structure StationPort where
  link : Link
  replies : List Reply
  slot : Option Notice
  returns : List EntryIndex
  refusals : List AdmissionRefusal
  sending : Option Sending
  deriving DecidableEq, Repr

/-- The Node Port (R168, R177). -/
structure NodePort where
  link : Link
  queue : List EntryIndex
  busy : Bool
  deriving DecidableEq, Repr

/-- The Counter Set (R179, R180). -/
structure CounterSet where
  counts : Vector Count Config.counters
  nextGroup : CounterGroup
  deriving DecidableEq, Repr

end Sys2Proof.Machine
end

