-- ==== Sys2Proof/Machine/Codes.lean ====
section
/-! DEFINITION. The code values of the enumerated fields (R184 to R190). -/
namespace Sys2Proof.Machine

/-- Command codes (R185). -/
def CommandName.code : CommandName → Byte
  | .probe => 0x01
  | .openSession => 0x02
  | .closeSession => 0x03
  | .keepalive => 0x04
  | .resetPart => 0x05
  | .getStatus => 0x06
  | .clearEvents => 0x10
  | .setEvents => 0x11
  | .ackNotice => 0x12
  | .setNoticeRetry => 0x13
  | .setLiveness => 0x18
  | .enterFallback => 0x19
  | .resume => 0x1A
  | .writeRule => 0x20
  | .eraseRule => 0x21
  | .clearShadow => 0x22
  | .copyActiveToShadow => 0x23
  | .writeBankParams => 0x24
  | .readRule => 0x25
  | .readBankParams => 0x26
  | .writeFallbackRule => 0x28
  | .eraseFallbackRule => 0x29
  | .writeFallbackParams => 0x2A
  | .readFallback => 0x2B
  | .commit => 0x30
  | .abortCommit => 0x31
  | .listHolds => 0x38
  | .release => 0x39
  | .deny => 0x3A
  | .readMeters => 0x40
  | .getTime => 0x41
  | .alignEpoch => 0x42
  | .setSync => 0x43
  | .readLog => 0x48
  | .setLog => 0x49
  | .readCounters => 0x4A

/-- The number of argument bytes each command carries (R185). -/
def CommandName.argBytes : CommandName → Nat
  | .probe | .openSession | .closeSession | .keepalive | .resetPart | .getStatus => 0
  | .clearEvents => 2
  | .setEvents => 4
  | .ackNotice | .setNoticeRetry | .setLiveness => 1
  | .enterFallback | .resume => 0
  | .writeRule => 26
  | .eraseRule => 1
  | .clearShadow | .copyActiveToShadow => 0
  | .writeBankParams => 54
  | .readRule => 2
  | .readBankParams => 1
  | .writeFallbackRule => 26
  | .eraseFallbackRule => 1
  | .writeFallbackParams => 2
  | .readFallback => 1
  | .commit | .abortCommit => 0
  | .listHolds | .release | .deny => 2
  | .readMeters => 3
  | .getTime => 0
  | .alignEpoch => 3
  | .setSync | .readLog => 1
  | .setLog => 5
  | .readCounters => 1

/-- The catalogue (section 8.11), in its order. -/
def CommandName.all : List CommandName :=
  [.probe, .openSession, .closeSession, .keepalive, .resetPart, .getStatus, .clearEvents, .setEvents, .ackNotice,
   .setNoticeRetry, .setLiveness, .enterFallback, .resume, .writeRule, .eraseRule, .clearShadow,
   .copyActiveToShadow, .writeBankParams, .readRule, .readBankParams, .writeFallbackRule, .eraseFallbackRule,
   .writeFallbackParams, .readFallback, .commit, .abortCommit, .listHolds, .release, .deny, .readMeters, .getTime,
   .alignEpoch, .setSync, .readLog, .setLog, .readCounters]

/-- The command a code names, if any (R140, R185). -/
def CommandName.ofCode (code : Byte) : Option CommandName := CommandName.all.find? fun c => c.code = code

/-! ### The command a COMMAND frame is -/

/-- The row of the opcode table that a command of the catalogue is, with its header and arguments (R185). -/
def CommandName.row (h : CommandHeader) (args : List Byte) : CommandName → Instr
  | .probe => .probe h args
  | .openSession => .openSession h args
  | .closeSession => .closeSession h args
  | .keepalive => .keepalive h args
  | .resetPart => .resetPart h args
  | .getStatus => .getStatus h args
  | .clearEvents => .clearEvents h args
  | .setEvents => .setEvents h args
  | .ackNotice => .ackNotice h args
  | .setNoticeRetry => .setNoticeRetry h args
  | .setLiveness => .setLiveness h args
  | .enterFallback => .enterFallback h args
  | .resume => .resume h args
  | .writeRule => .writeRule h args
  | .eraseRule => .eraseRule h args
  | .clearShadow => .clearShadow h args
  | .copyActiveToShadow => .copyActiveToShadow h args
  | .writeBankParams => .writeBankParams h args
  | .readRule => .readRule h args
  | .readBankParams => .readBankParams h args
  | .writeFallbackRule => .writeFallbackRule h args
  | .eraseFallbackRule => .eraseFallbackRule h args
  | .writeFallbackParams => .writeFallbackParams h args
  | .readFallback => .readFallback h args
  | .commit => .commit h args
  | .abortCommit => .abortCommit h args
  | .listHolds => .listHolds h args
  | .release => .release h args
  | .deny => .deny h args
  | .readMeters => .readMeters h args
  | .getTime => .getTime h args
  | .alignEpoch => .alignEpoch h args
  | .setSync => .setSync h args
  | .readLog => .readLog h args
  | .setLog => .setLog h args
  | .readCounters => .readCounters h args

/-- The row that a COMMAND frame is, by its code (R140, R185). -/
def commandRow (code : Byte) (h : CommandHeader) (args : List Byte) : Instr :=
  match CommandName.ofCode code with
  | some c => c.row h args
  | none => .unknownCommand code h args

/-- The code, header and arguments of a row that is a COMMAND frame. -/
def commandFrame? : Instr → Option (Byte × CommandHeader × List Byte)
  | .rstNAsserted => none
  | .powerOnReset _ _ => none
  | .signalDetected _ => none
  | .validIdleSymbol _ => none
  | .otherSymbol _ _ => none
  | .lossOfSignal _ => none
  | .frameRejected _ _ => none
  | .requestArrival _ _ => none
  | .responseArrival _ => none
  | .responseDeadlineExpiry _ => none
  | .nodeTransmitComplete => none
  | .sPortTransmitComplete => none
  | .holdDeadlineExpiry _ => none
  | .epochBoundary => none
  | .syncInEdge _ => none
  | .livenessExpiry => none
  | .noticeRetryExpiry => none
  | .unknownCommand code h args => some (code, h, args)
  | .probe h args => some (CommandName.code .probe, h, args)
  | .openSession h args => some (CommandName.code .openSession, h, args)
  | .closeSession h args => some (CommandName.code .closeSession, h, args)
  | .keepalive h args => some (CommandName.code .keepalive, h, args)
  | .resetPart h args => some (CommandName.code .resetPart, h, args)
  | .getStatus h args => some (CommandName.code .getStatus, h, args)
  | .clearEvents h args => some (CommandName.code .clearEvents, h, args)
  | .setEvents h args => some (CommandName.code .setEvents, h, args)
  | .ackNotice h args => some (CommandName.code .ackNotice, h, args)
  | .setNoticeRetry h args => some (CommandName.code .setNoticeRetry, h, args)
  | .setLiveness h args => some (CommandName.code .setLiveness, h, args)
  | .enterFallback h args => some (CommandName.code .enterFallback, h, args)
  | .resume h args => some (CommandName.code .resume, h, args)
  | .writeRule h args => some (CommandName.code .writeRule, h, args)
  | .eraseRule h args => some (CommandName.code .eraseRule, h, args)
  | .clearShadow h args => some (CommandName.code .clearShadow, h, args)
  | .copyActiveToShadow h args => some (CommandName.code .copyActiveToShadow, h, args)
  | .writeBankParams h args => some (CommandName.code .writeBankParams, h, args)
  | .readRule h args => some (CommandName.code .readRule, h, args)
  | .readBankParams h args => some (CommandName.code .readBankParams, h, args)
  | .writeFallbackRule h args => some (CommandName.code .writeFallbackRule, h, args)
  | .eraseFallbackRule h args => some (CommandName.code .eraseFallbackRule, h, args)
  | .writeFallbackParams h args => some (CommandName.code .writeFallbackParams, h, args)
  | .readFallback h args => some (CommandName.code .readFallback, h, args)
  | .commit h args => some (CommandName.code .commit, h, args)
  | .abortCommit h args => some (CommandName.code .abortCommit, h, args)
  | .listHolds h args => some (CommandName.code .listHolds, h, args)
  | .release h args => some (CommandName.code .release, h, args)
  | .deny h args => some (CommandName.code .deny, h, args)
  | .readMeters h args => some (CommandName.code .readMeters, h, args)
  | .getTime h args => some (CommandName.code .getTime, h, args)
  | .alignEpoch h args => some (CommandName.code .alignEpoch, h, args)
  | .setSync h args => some (CommandName.code .setSync, h, args)
  | .readLog h args => some (CommandName.code .readLog, h, args)
  | .setLog h args => some (CommandName.code .setLog, h, args)
  | .readCounters h args => some (CommandName.code .readCounters, h, args)

/-- Result codes (R186). -/
def ResultCode.code : ResultCode → Byte
  | .done => 0x00
  | .accepted => 0x01
  | .opened => 0x02
  | .sessionBusy => 0x10
  | .noSession => 0x11
  | .notOwner => 0x12
  | .sequenceError => 0x13
  | .badCommand => 0x14
  | .badField => 0x15
  | .commitPending => 0x20
  | .nothingPending => 0x21
  | .commitRejected => 0x22
  | .notHeld => 0x23
  | .staleNotice => 0x24
  | .inFallback => 0x25
  | .notInFallback => 0x26

/-- Refusal cause codes (R184). -/
def RefusalCause.code : RefusalCause → Byte
  | .badTarget => 0x01
  | .tagInUse => 0x02
  | .tableFull => 0x03
  | .rule => 0x04
  | .meter => 0x05
  | .holdFull => 0x06
  | .holdDenied => 0x07
  | .holdExpired => 0x08
  | .noResponse => 0x09
  | .linkDown => 0x0A

/-- Operation codes (R184). -/
def operationCode : Operation → Byte
  | .read => 0x01
  | .write => 0x02
  | .exec => 0x03

/-- Node status codes (R184). -/
def statusCode : NodeStatus → Byte
  | .ok => 0x00
  | .nodeError => 0x01
  | .refused => 0x02

/-- off is 0 and on is 1 (R187); also the absent and present marks. -/
def boolCode (b : Bool) : Byte := if b then 1 else 0

/-- Bank codes (R187). -/
def BankName.code : BankName → Byte
  | .active => 0
  | .shadow => 1

/-- Miss action codes (R187). -/
def MissAction.code : MissAction → Byte
  | .pass => 0
  | .refuse => 1
  | .passReads => 2

/-- Exceed action codes (R187). -/
def ExceedAction.code : ExceedAction → Byte
  | .refuse => 0
  | .passFlagged => 1

/-- Rule action codes (R187). -/
def RuleAction.code : RuleAction → Byte
  | .pass => 0
  | .refuse => 1
  | .hold _ _ => 2
  | .meter _ => 3

/-- Hold default codes; the same codes for a fallback rule's action (R187). -/
def PassRefuse.code : PassRefuse → Byte
  | .pass => 0
  | .refuse => 1

/-- Log level codes (R187). -/
def LogLevel.code : LogLevel → Byte
  | .none => 0
  | .decision => 1
  | .pair => 2

/-- Log mode codes (R187). -/
def LogMode.code : LogMode → Byte
  | .wrap => 0
  | .stop => 1

/-- Sync mode codes (R187). -/
def SyncMode.code : SyncMode → Byte
  | .off => 0
  | .capture => 1
  | .restart => 2

/-- Mode codes (R187). -/
def Mode.code : Mode → Byte
  | .governed => 0
  | .fallback => 1

/-- Commit state codes (R187). -/
def CommitState.code : CommitState → Byte
  | .idle => 0
  | .pending => 1

/-- Liveness state codes (R187). -/
def LivenessState.code : LivenessState → Byte
  | .disarmed => 0
  | .running _ => 1
  | .warned _ => 2

/-- Notice sender state codes (R187). -/
def NoticeState.code : NoticeState → Byte
  | .idle => 0
  | .awaitingAck _ => 1

/-- Entry state codes (R187). -/
def EntryState.code : EntryState → Byte
  | .free => 0
  | .held _ _ => 1
  | .queued _ => 2
  | .inFlight _ _ => 3
  | .returning _ _ => 4

/-- Counter group codes (R187). -/
def CounterGroup.code : CounterGroup → Byte
  | .traffic => 0
  | .outcomes => 1

/-- Reset cause codes (R187). -/
def ResetKind.code : ResetKind → Byte
  | .powerOn => 0
  | .management => 1

/-- START strap codes (R187). -/
def startCode : StartStrap → Byte
  | .opened => 0
  | .guarded => 1

/-- Mode change cause codes (R190). -/
def ModeCause.code : ModeCause → Byte
  | .liveness => 0x20
  | .command => 0x21
  | .resume => 0x22

/-- The mode change cause of a fallback entry (R98). -/
def FallbackCause.modeCause : FallbackCause → ModeCause
  | .liveness => .liveness
  | .command => .command

/-- Record kind codes (R190). -/
def RecordKind.code : RecordKind → Byte
  | .decision => 1
  | .released => 2
  | .denied => 3
  | .holdExpired => 4
  | .completed => 5
  | .timedOut => 7
  | .linkDownAnswer => 8
  | .admissionRefused => 9
  | .stray => 10
  | .modeChange => 11
  | .commitApplied => 12

/-- Record cause codes (R190). -/
def RecordCause.code : RecordCause → Byte
  | .refusal c => c.code
  | .nodeStatus .ok => 0x10
  | .nodeStatus .nodeError => 0x11
  | .nodeStatus .refused => 0x12
  | .modeChange m => m.code

/-- Record decision codes (R190). -/
def LoggedDecision.code : LoggedDecision → Byte
  | .pass => 1
  | .refuse => 2
  | .hold => 3

/-- The bit of an event kind in an event set (R188). -/
def EventKind.bit : EventKind → Nat
  | .holdWaiting => 0
  | .holdExpired => 1
  | .holdOverflow => 2
  | .responseTimeout => 3
  | .strayResponse => 4
  | .meterExceeded => 5
  | .logThreshold => 6
  | .logLoss => 7
  | .commitApplied => 8
  | .linkChange => 9
  | .admissionFull => 10
  | .livenessWarning => 11
  | .fallbackEntered => 12

/-- The event set that holds one kind alone (R188). -/
def EventKind.mask (k : EventKind) : EventSet := (1 : EventSet) <<< k.bit

/-- The place of a counter in the order of R179: 0 to 12 are group TRAFFIC, 13 to 25 group OUTCOMES. -/
def Counter.index : Counter → Fin Config.counters
  | .framesAccepted .station => 0
  | .checkFailures .station => 1
  | .malformed .station => 2
  | .wrongKind .station => 3
  | .framesAccepted .node => 4
  | .checkFailures .node => 5
  | .malformed .node => 6
  | .wrongKind .node => 7
  | .requestsAdmitted => 8
  | .refusalsDropped => 9
  | .strays => 10
  | .answersDiscarded => 11
  | .managementOverruns => 12
  | .refusals .rule => 13
  | .refusals .meter => 14
  | .refusals .holdDenied => 15
  | .refusals .holdExpired => 16
  | .refusals .holdFull => 17
  | .refusals .tableFull => 18
  | .refusals .tagInUse => 19
  | .refusals .badTarget => 20
  | .refusals .noResponse => 21
  | .refusals .linkDown => 22
  | .commitsApplied => 23
  | .commitsCancelled => 24
  | .logRecordsLost => 25

end Sys2Proof.Machine
end

