-- ==== Sys2Proof/Machine/Operands.lean ====
section
/-! DEFINITION. The byte layouts of arguments, payloads, rule records and log records (R185 to R190). -/
namespace Sys2Proof.Machine

/-! ### Numbers in bytes -/

/-- A number in n bytes, high byte first (chapter 11, introduction). -/
def bigEndian : Nat → Nat → List Byte
  | 0, _ => []
  | n + 1, x => BitVec.ofNat 8 (x / 256 ^ n) :: bigEndian n x

/-- The number that bytes spell, high byte first. -/
def spelled (bytes : List Byte) : Nat := bytes.foldl (fun acc b => acc * 256 + b.toNat) 0

/-- The number in n bytes at a place of an argument run. -/
def field (args : List Byte) (place n : Nat) : Nat := spelled ((args.drop place).take n)

/-- One byte at a place of an argument run. -/
def byteAt (args : List Byte) (place : Nat) : Byte := args.getD place 0

/-- Bytes cut or filled with zeros to a width. -/
def padded (n : Nat) (bytes : List Byte) : List Byte := (bytes ++ List.replicate n 0).take n

/-- An optional item: a presence byte, then the value's bytes, 0 when absent (R187). -/
def optionalItem (n : Nat) : Option Nat → List Byte
  | none => 0 :: List.replicate n 0
  | some x => 1 :: bigEndian n x

/-- The place, counted from 1, of the first check that fails (R187, BAD_FIELD). -/
def firstFailing (checks : List Bool) : Option Nat := (checks.findIdx? id).map (· + 1)

/-! ### Enumerated arguments -/

/-- off or on (R187). -/
def readFlag (b : Byte) : Option Bool := if b = 0 then some false else if b = 1 then some true else none

/-- A bank's name (R187). -/
def readBankName (b : Byte) : Option BankName := if b = 0 then some .active else if b = 1 then some .shadow else none

/-- A miss action (R187). -/
def readMissAction (b : Byte) : Option MissAction :=
  if b = 0 then some .pass else if b = 1 then some .refuse else if b = 2 then some .passReads else none

/-- An exceed action (R187). -/
def readExceedAction (b : Byte) : Option ExceedAction :=
  if b = 0 then some .refuse else if b = 1 then some .passFlagged else none

/-- A hold default, or a fallback rule's action (R187). -/
def readPassRefuse (b : Byte) : Option PassRefuse :=
  if b = 0 then some .pass else if b = 1 then some .refuse else none

/-- A log level (R187). -/
def readLogLevel (b : Byte) : Option LogLevel :=
  if b = 0 then some .none else if b = 1 then some .decision else if b = 2 then some .pair else none

/-- A log mode (R187). -/
def readLogMode (b : Byte) : Option LogMode := if b = 0 then some .wrap else if b = 1 then some .stop else none

/-- A sync mode (R187). -/
def readSyncMode (b : Byte) : Option SyncMode :=
  if b = 0 then some .off else if b = 1 then some .capture else if b = 2 then some .restart else none

/-- An event set argument; bits 13 to 15 name no kind (R188). -/
def readEventSet (x : Nat) : Option EventSet := if x < 8192 then some (BitVec.ofNat 13 x) else none

/-! ### The rule record -/

/-- The 25 bytes of a rule record, field by field (R189). -/
structure RuleRecord where
  presence : Byte
  nodeLow : Byte
  nodeHigh : Byte
  operations : Byte
  registerLow : Half
  registerHigh : Half
  stationCount : Nat
  stationBytes : List Byte
  openOffset : Nat
  closeOffset : Nat
  action : Byte
  meter : Byte
  holdLimit : Nat
  holdDefault : Byte
  logLevel : Byte
  deriving DecidableEq, Repr

/-- Read a rule record (R189). -/
def readRuleRecord (r : List Byte) : RuleRecord where
  presence := byteAt r 0
  nodeLow := byteAt r 1
  nodeHigh := byteAt r 2
  operations := byteAt r 3
  registerLow := BitVec.ofNat 16 (field r 4 2)
  registerHigh := BitVec.ofNat 16 (field r 6 2)
  stationCount := field r 8 1
  stationBytes := (r.drop 9).take 4
  openOffset := field r 13 3
  closeOffset := field r 16 3
  action := byteAt r 19
  meter := byteAt r 20
  holdLimit := field r 21 2
  holdDefault := byteAt r 23
  logLevel := byteAt r 24

/-- The window is present (R189). -/
def RuleRecord.hasWindow (r : RuleRecord) : Bool := r.presence.getLsbD 0

/-- The meter is present (R189). -/
def RuleRecord.hasMeter (r : RuleRecord) : Bool := r.presence.getLsbD 1

/-- The hold limit is present (R189). -/
def RuleRecord.hasHoldLimit (r : RuleRecord) : Bool := r.presence.getLsbD 2

/-- The hold default is present (R189). -/
def RuleRecord.hasHoldDefault (r : RuleRecord) : Bool := r.presence.getLsbD 3

/-- The operation set; the byte's other bits are not read (R189). -/
def RuleRecord.operationSet (r : RuleRecord) : OperationSet :=
  ⟨r.operations.getLsbD 0, r.operations.getLsbD 1, r.operations.getLsbD 2⟩

/-- The stations listed: the first count of the station bytes (R189). -/
def RuleRecord.stations (r : RuleRecord) : List Byte := r.stationBytes.take r.stationCount

/-- An address no rule may name (R25). -/
def badAddress (a : Byte) : Bool := decide (a.toNat = 0 ∨ 62 < a.toNat)

/-- The checks that a bank rule and a fallback rule share, in order: node low, node high, operation set,
register high, station list (R37, R42). -/
def RuleRecord.selectorFaults (r : RuleRecord) : List Bool :=
  [badAddress r.nodeLow,
   badAddress r.nodeHigh || decide (r.nodeHigh.toNat < r.nodeLow.toNat),
   !r.operationSet.read && !r.operationSet.write && !r.operationSet.exec,
   decide (r.registerHigh.toNat < r.registerLow.toNat),
   decide (4 < r.stationCount) || r.stations.any badAddress || !decide r.stations.Nodup]

/-- The checks of WRITE_RULE, in the order of R37. -/
def RuleRecord.bankFaults (slot : Nat) (r : RuleRecord) : List Bool :=
  decide (127 < slot) :: r.selectorFaults ++
  [r.hasWindow && decide (999999 < r.openOffset ∨ 999999 < r.closeOffset ∨ r.openOffset = r.closeOffset),
   decide (3 < r.action.toNat),
   if r.action = 3 then !r.hasMeter || decide (15 < r.meter.toNat) else r.hasMeter,
   if r.action = 2 then !r.hasHoldLimit || decide (r.holdLimit = 0 ∨ 60000 < r.holdLimit) else r.hasHoldLimit,
   if r.action = 2 then !r.hasHoldDefault || (readPassRefuse r.holdDefault).isNone else r.hasHoldDefault,
   (readLogLevel r.logLevel).isNone]

/-- The checks of WRITE_FALLBACK_RULE, in the order of R42. -/
def RuleRecord.fallbackFaults (slot : Nat) (r : RuleRecord) : List Bool :=
  decide (7 < slot) :: r.selectorFaults ++
  [r.hasWindow, (readPassRefuse r.action).isNone, r.hasMeter, r.hasHoldLimit, r.hasHoldDefault,
   (readLogLevel r.logLevel).isNone]

/-- The selector a record spells. -/
def RuleRecord.selector (r : RuleRecord) : Selector where
  nodeLow := r.nodeLow
  nodeHigh := r.nodeHigh
  operations := r.operationSet
  registerLow := r.registerLow
  registerHigh := r.registerHigh
  stations := if r.stationCount = 0 then none else some r.stations

/-- The action a record that passed its checks spells. -/
def RuleRecord.ruleAction (r : RuleRecord) : RuleAction :=
  if r.action = 0 then .pass
  else if r.action = 1 then .refuse
  else if r.action = 2 then .hold r.holdLimit ((readPassRefuse r.holdDefault).getD .refuse)
  else .meter ⟨r.meter.toNat % 16, Nat.mod_lt _ (by decide)⟩

/-- The bank rule a record that passed its checks spells. -/
def RuleRecord.toRule (r : RuleRecord) : Rule where
  selector := r.selector
  window := if r.hasWindow then some ⟨r.openOffset, r.closeOffset⟩ else none
  action := r.ruleAction
  logLevel := (readLogLevel r.logLevel).getD .none

/-- The fallback rule a record that passed its checks spells. -/
def RuleRecord.toFallbackRule (r : RuleRecord) : FallbackRule where
  selector := r.selector
  action := (readPassRefuse r.action).getD .refuse
  logLevel := (readLogLevel r.logLevel).getD .none

/-- A fallback rule as a bank rule without window (R26). -/
def FallbackRule.toRule (f : FallbackRule) : Rule where
  selector := f.selector
  window := none
  action := match f.action with
    | .pass => .pass
    | .refuse => .refuse
  logLevel := f.logLevel

/-- The operation set byte of a rule record (R189). -/
def OperationSet.byte (o : OperationSet) : Byte :=
  BitVec.ofNat 8 ((if o.read then 1 else 0) + (if o.write then 2 else 0) + (if o.exec then 4 else 0))

/-- The presence byte of a rule record (R189). -/
def Rule.presence (r : Rule) : Byte :=
  (if r.window.isSome then 1 else 0) +
  (match r.action with
   | .pass => 0
   | .refuse => 0
   | .hold _ _ => 12
   | .meter _ => 2)

/-- The 25 bytes of a stored rule; absent fields and unused station bytes are 0 (R189). -/
def ruleBytes (r : Rule) : List Byte :=
  let s := r.selector
  let stations := s.stations.getD []
  let window := r.window.getD ⟨0, 0⟩
  [r.presence, s.nodeLow, s.nodeHigh, s.operations.byte]
    ++ bigEndian 2 s.registerLow.toNat ++ bigEndian 2 s.registerHigh.toNat
    ++ bigEndian 1 stations.length ++ padded 4 stations
    ++ bigEndian 3 window.openOffset ++ bigEndian 3 window.closeOffset
    ++ [r.action.code]
    ++ (match r.action with
        | .pass => [0, 0, 0, 0]
        | .refuse => [0, 0, 0, 0]
        | .hold limit d => 0 :: bigEndian 2 limit ++ [d.code]
        | .meter m => [BitVec.ofNat 8 m.val, 0, 0, 0])
    ++ [r.logLevel.code]

/-- A slot in a reply: the empty flag, then the record, all 0 for an empty slot (R189). The manual gives the flag neither a
width nor codes: one byte, 1 for an empty slot and 0 for a rule held, is the model's reading (log 13). -/
def slotBytes : Option Rule → List Byte
  | none => 1 :: List.replicate 25 0
  | some r => 0 :: ruleBytes r

/-! ### Bank parameters -/

/-- One meter's settings in the arguments of WRITE_BANK_PARAMS (R185). -/
def readMeterSetting (args : List Byte) (m : Nat) : MeterSetting where
  budget := BitVec.ofNat 16 (field args (6 + 3 * m) 2)
  exceed := (readExceedAction (byteAt args (8 + 3 * m))).getD .refuse

/-- The parameters in the arguments of WRITE_BANK_PARAMS (R185, R39). -/
def readParams (args : List Byte) : BankParams where
  missAction := (readMissAction (byteAt args 0)).getD .pass
  missLogging := (readFlag (byteAt args 1)).getD false
  responseTimeout := field args 2 1
  epochLength := field args 3 3
  meters := ⟨⟨(List.range 16).map (readMeterSetting args)⟩, by simp⟩

/-- The first meter whose exceed action fails its check (R39). -/
def badExceedMeter (args : List Byte) : Option Nat :=
  (List.range 16).find? fun m => (readExceedAction (byteAt args (8 + 3 * m))).isNone

/-- The first failing field of WRITE_BANK_PARAMS, with the meter number for an exceed action (R39, R187). -/
def paramsFault (args : List Byte) : Option (Nat × Nat) :=
  match firstFailing
      [(readMissAction (byteAt args 0)).isNone,
       (readFlag (byteAt args 1)).isNone,
       decide (field args 2 1 = 0),
       decide (field args 3 3 < 100 ∨ 1000000 < field args 3 3)] with
  | some n => some (n, 0)
  | none => (badExceedMeter args).map fun m => (5, m)

/-- The 54 bytes of a bank's parameters (R185, R40). -/
def paramsBytes (p : BankParams) : List Byte :=
  [p.missAction.code, boolCode p.missLogging] ++ bigEndian 1 p.responseTimeout ++ bigEndian 3 p.epochLength
    ++ p.meters.toList.flatMap fun m => bigEndian 2 m.budget.toNat ++ [m.exceed.code]

/-! ### The log record -/

/-- The flags byte of a log record (R190). -/
def RecordBody.flags (b : RecordBody) : Byte :=
  (if b.parties.isSome then 1 else 0) + (if b.access.isSome then 2 else 0) + (if b.ruleSlot.isSome then 4 else 0)
    + (if b.meter.isSome then 8 else 0) + (if (b.meter.map (·.exceeded)).getD false then 16 else 0)
    + (if b.byFallback then 32 else 0)

/-- The table byte and the bank generation of a log record (R190). -/
def TableId.bytes : TableId → List Byte
  | .active g => 0 :: bigEndian 2 g.toNat
  | .fallback => [1, 0, 0]

/-- The 35 bytes of a log record (R190). -/
def recordBytes (r : LogRecord) : List Byte :=
  let b := r.body
  bigEndian 4 r.sequence.toNat ++ bigEndian 4 r.epoch.toNat ++ bigEndian 3 r.offset
    ++ [b.kind.code, b.flags]
    ++ (match b.parties with
        | none => [0, 0, 0]
        | some p => [p.station, p.node, p.tag])
    ++ (match b.access with
        | none => [0, 0, 0]
        | some a => operationCode a.operation :: bigEndian 2 a.register.toNat)
    ++ b.table.bytes
    ++ [(b.decision.map (·.code)).getD 0]
    ++ bigEndian 1 (b.ruleSlot.getD 0)
    ++ bigEndian 1 ((b.meter.map (·.meter.val)).getD 0)
    ++ [(b.cause.map (·.code)).getD 0]
    ++ bigEndian 1 b.snippet.length ++ padded 8 b.snippet

end Sys2Proof.Machine
end

