-- ==== Sys2Proof/Machine/ResetValues.lean ====
section
/-! DEFINITION. The value of each block's state after a reset, as its chapter gives it. -/
namespace Sys2Proof.Machine

/-- The parameters of the active and shadow bank after either reset (R44, R45). -/
def resetParams : BankParams where
  missAction := .pass
  missLogging := false
  responseTimeout := 20
  epochLength := 10000
  meters := Vector.replicate Config.meters ⟨0, .refuse⟩

/-- A bank after either reset (R44, R45). -/
def resetBank : Bank where
  slots := Vector.replicate Config.bankSlots none
  params := resetParams

/-- The fallback table after a power-on reset (R44). -/
def powerOnFallbackTable : FallbackTable where
  slots := Vector.replicate Config.fallbackSlots none
  missAction := .passReads
  responseTimeout := 20

/-- The transaction table after either reset (R21, R22). -/
def resetTable : Vector Entry Config.entries := Vector.replicate Config.entries ⟨0, .free⟩

/-- The Epoch Timer after either reset (R73). -/
def resetEpoch : EpochTimer := ⟨0, 0, .off, none⟩

/-- The meters after either reset (R78). -/
def resetMeters : Vector Meter Config.meters := Vector.replicate Config.meters ⟨0, 0⟩

/-- Commit Control after either reset (R94, R95). -/
def resetCommit : CommitControl := ⟨.idle, 0⟩

/-- The Capture Log after a power-on reset (R109). -/
def powerOnLog : CaptureLog := ⟨[], 0, .wrap, 192, false, false, 0⟩

/-- The kinds that are always enabled and routed to LINE: LIVENESS_WARNING and FALLBACK_ENTERED (R111). -/
def fixedEvents : EventSet := 0b1100000000000#13

/-- The Event Unit after either reset (R125, R126). -/
def resetEvents : EventUnit := ⟨0, fixedEvents, fixedEvents⟩

/-- The notice sender after either reset (R125, R126). -/
def resetNotice : NoticeSender := ⟨.idle, 0, 10⟩

/-- The session record after a power-on reset (R150). -/
def powerOnSession : SessionRecord := ⟨none, 0, false⟩

/-- The mode the START strap sets at a reset (R153). -/
def startMode : StartStrap → Mode
  | .opened => .governed
  | .guarded => .fallback

/-- The own address from the sampled straps: 62 for the invalid 0 and 63 (R154). -/
def sampledAddress (straps : BitVec 6) : Byte :=
  if straps = 0 ∨ straps = 63 then 62 else straps.setWidth 8

/-- The strap-fault flag from the sampled straps (R154). -/
def sampledFault (straps : BitVec 6) : Bool := decide (straps = 0 ∨ straps = 63)

/-- The liveness period after either reset, in units of 100 ms (R166, R167). -/
def resetPeriod : Nat := 50

/-- Mode Control after a power-on reset (R166). -/
def powerOnMode (straps : BitVec 6) (start : StartStrap) : ModeControl where
  mode := startMode start
  liveness := .disarmed
  period := resetPeriod
  fallbackRecord := ⟨0, none, none⟩
  ownAddress := sampledAddress straps
  strapFault := sampledFault straps
  start := start

/-- The Station Port after a power-on reset (R181). -/
def powerOnStationPort : StationPort := ⟨.down, [], none, [], [], none⟩

/-- The Node Port after a power-on reset (R181). -/
def powerOnNodePort : NodePort := ⟨.down, [], false⟩

/-- The Counter Set after either reset (R181, R182). -/
def resetCounters : CounterSet := ⟨Vector.replicate Config.counters 0, .traffic⟩

end Sys2Proof.Machine
end

