-- ==== Sys2Proof/Machine/State.lean ====
section
/-! DEFINITION. The whole state of the part, the reasons a step could stop, and the state after reset. -/
namespace Sys2Proof.Machine

/-- The state of the BW318, block by block, with the queue of waiting commands. -/
structure State where
  /-- RST_N is low: the part is held in reset (R21). -/
  heldInReset : Bool
  /-- Running time in µs since the power-on reset, from which deadlines are measured (chapter 4). Log 4. -/
  now : Nat
  epoch : EpochTimer
  table : Vector Entry Config.entries
  resetCause : ResetCause
  active : Bank
  shadow : Bank
  fallback : FallbackTable
  commit : CommitControl
  holdQueue : List HoldRef
  meters : Vector Meter Config.meters
  log : CaptureLog
  events : EventUnit
  notice : NoticeSender
  session : SessionRecord
  control : ModeControl
  sPort : StationPort
  nPort : NodePort
  counters : CounterSet
  /-- The model's own: index of the next free choice between expiries due at one time. Log 2. -/
  choices : Nat
  /-- The commands waiting, first in, first out. Log 1. -/
  pending : List Instr
  deriving DecidableEq, Repr

/-- The reasons a step could stop with a fault. The manual names none. -/
inductive Fault where
  /-- Raised by nobody: the manual gives every command an effect in every state. Safe. -/
  | neverRaised
  deriving DecidableEq, Repr

/-- The reasons a step could be refused. -/
inductive Refusal where
  /-- Raised by the dispatcher for a command without a meaning in the model; no arm does. Safe. -/
  | notModelled (mnemonic : String)
  deriving DecidableEq, Repr

/-- Every block at its power-on values, with the straps sampled as given (R21, R44, R62, R73, R78, R94, R109, R125,
R150, R166, R181). The queue of commands and the free-choice index are the model's own and are handed over. -/
def State.powerOn (straps : BitVec 6) (start : StartStrap) (choices : Nat) (pending : List Instr) : State where
  heldInReset := false
  now := 0
  epoch := resetEpoch
  table := resetTable
  resetCause := ⟨.powerOn, 0⟩
  active := resetBank
  shadow := resetBank
  fallback := powerOnFallbackTable
  commit := resetCommit
  holdQueue := []
  meters := resetMeters
  log := powerOnLog
  events := resetEvents
  notice := resetNotice
  session := powerOnSession
  control := powerOnMode straps start
  sPort := powerOnStationPort
  nPort := powerOnNodePort
  counters := resetCounters
  choices := choices
  pending := pending

/-- The part right after a power-on reset. DESIGN CHOICE (log 5): the straps read address 1 and *open*. -/
def State.reset : State := State.powerOn Config.resetAddressStraps .opened 0 []

end Sys2Proof.Machine
end

