-- ==== Sys2Proof/Machine/Flags.lean ====
section
/-! DEFINITION. Event statuses, the ALERT output, the notice sender, and the counters. -/
namespace Sys2Proof.Machine

/-! ### Times -/

/-- Milliseconds of running time, in µs. -/
def millis (n : Nat) : Nat := n * 1000

/-! ### Counters -/

/-- A counter's value. -/
def State.count (s : State) (c : Counter) : Count := s.counters.counts[c.index]

/-- A counter moves on by n, wrapping at 32 bits (R179). -/
def State.bumpBy (n : Nat) (c : Counter) (s : State) : State :=
  { s with counters := { s.counters with
      counts := s.counters.counts.set c.index.val (s.counters.counts[c.index] + BitVec.ofNat 32 n) c.index.isLt } }

/-- A counter increments (R179). -/
def State.bump (c : Counter) (s : State) : State := s.bumpBy 1 c

/-! ### Link states -/

/-- A port's link state (R168). -/
def State.link (s : State) : PortName → Link
  | .station => s.sPort.link
  | .node => s.nPort.link

/-- The port is UP. -/
def Link.isUp : Link → Bool
  | .down => false
  | .syncing _ => false
  | .up _ => true

/-- A port's link state is replaced. -/
def State.setLink (p : PortName) (l : Link) (s : State) : State :=
  match p with
  | .station => { s with sPort := { s.sPort with link := l } }
  | .node => { s with nPort := { s.nPort with link := l } }

/-! ### Statuses -/

/-- A kind's status is set. -/
def EventUnit.isSet (e : EventUnit) (k : EventKind) : Bool := e.status.getLsbD k.bit

/-- The statuses that take part in the notice condition: enabled, routed to NOTICE, set (R111, R117). -/
def EventUnit.noticeSet (e : EventUnit) : EventSet := e.status &&& e.enable &&& ~~~e.line

/-- The statuses that drive ALERT: enabled, routed to LINE, set (R111, R115). -/
def EventUnit.lineSet (e : EventUnit) : EventSet := e.status &&& e.enable &&& e.line

/-- The ALERT output is asserted (R115); it is released while the part is held in reset (R21). -/
def State.alert (s : State) : Bool := !s.heldInReset && decide (s.events.lineSet ≠ 0)

/-! ### The notice sender -/

/-- The NOTICE frame built now for a station under a number (R118). -/
def State.buildNotice (owner number : Byte) (s : State) : Notice where
  destination := owner
  number := number
  events := s.events.noticeSet
  holds := s.holdQueue.length
  fill := s.log.records.length
  mode := s.control.mode
  commit := s.commit.state

/-- The time at which a retry timer started now expires (R117). -/
def State.retryDeadline (s : State) : Nat := s.now + millis (10 * s.notice.interval)

/-- A NOTICE placed in the Notice slot, unless the slot's NOTICE is under transmission (R118, R120). -/
def State.placeNotice (owner number : Byte) (s : State) : Option Notice :=
  if s.sPort.sending = some .notice then s.sPort.slot else some (s.buildNotice owner number)

/-- The IDLE sender makes a notice: R118 steps 1 to 4. -/
def State.makeNotice (owner : Byte) (s : State) : State :=
  { s with
    sPort := { s.sPort with slot := s.placeNotice owner (s.notice.number + 1) }
    notice := { s.notice with number := s.notice.number + 1, state := .awaitingAck s.retryDeadline } }

/-- The owner to whom a notice is due: a session is open, the sender is IDLE and the notice condition holds (R117). -/
def State.noticeDue (s : State) : Option Byte :=
  match s.session.current, s.notice.state with
  | some o, .idle => if s.events.noticeSet = 0 then none else some o.owner
  | some _, .awaitingAck _ => none
  | none, _ => none

/-- The notice condition is evaluated, and a notice made when it holds (R117). -/
def State.evalNotice (s : State) : State :=
  match s.noticeDue with
  | some owner => s.makeNotice owner
  | none => s

/-- A status is set; ALERT follows, and the notice sender takes the change at once (R112). -/
def State.setStatus (k : EventKind) (s : State) : State :=
  State.evalNotice { s with events := { s.events with status := s.events.status ||| k.mask } }

/-- A status is cleared; this never makes the notice condition hold (R114). -/
def State.clearStatus (k : EventKind) (s : State) : State :=
  { s with events := { s.events with status := s.events.status &&& ~~~k.mask } }

/-- HOLD_WAITING follows the hold queue being non-empty, at each change of its length (R48). -/
def State.followHolds (s : State) : State :=
  if s.holdQueue.isEmpty then s.clearStatus .holdWaiting
  else if s.events.isSet .holdWaiting then s
  else s.setStatus .holdWaiting

/-- A change of session takes the sender to IDLE, removes the NOTICE in the slot and abandons its transmission (R123). -/
def State.withdrawNotice (s : State) : State :=
  { s with
    notice := { s.notice with state := .idle }
    sPort := { s.sPort with
      slot := none
      sending := if s.sPort.sending = some .notice then none else s.sPort.sending } }

end Sys2Proof.Machine
end

