-- ==== Sys2Proof/Machine/Ops.lean ====
section
/-! DEFINITION. The named operations over the blocks: the log, the transaction table, holds, boundaries and commits,
the session, mode changes, resets, and the two transmitters. -/
namespace Sys2Proof.Machine

/-! ### The Capture Log -/

/-- A lost record is accounted in three places (R102). -/
def State.accountLoss (s : State) : State :=
  State.setStatus .logLoss
    (State.bump .logRecordsLost { s with log := { s.log with lostCount := s.log.lostCount + 1 } })

/-- LOG_THRESHOLD is judged after an append at R99 step 3 (R103). -/
def State.judgeThreshold (s : State) : State :=
  if s.log.records.length = s.log.threshold then s.setStatus .logThreshold else s

/-- The record a block creates now: numbered and stamped (R99 steps 1 and 2). -/
def State.stampRecord (b : RecordBody) (s : State) : LogRecord := ⟨s.log.nextSequence, s.epoch.number, s.epoch.offset, b⟩

/-- The log's number is consumed and its list replaced. -/
def State.putRecords (records : List LogRecord) (s : State) : State :=
  { s with log := { s.log with nextSequence := s.log.nextSequence + 1, records := records } }

/-- The Capture Log takes a record (R99 to R101). -/
def State.logRecord (b : RecordBody) (s : State) : State :=
  if s.log.records.length < Config.logCapacity then
    State.judgeThreshold (s.putRecords (s.log.records ++ [s.stampRecord b]))
  else match s.log.mode with
    | .wrap => State.accountLoss (s.putRecords (s.log.records.tail ++ [s.stampRecord b]))
    | .stop => State.accountLoss (s.putRecords s.log.records)

/-! ### Records about requests -/

/-- The operation of a request. -/
def requestOperation : RequestBody → Operation
  | .read _ => .read
  | .write _ => .write
  | .exec _ => .exec

/-- The data bytes of a request; a READ has none (R1). -/
def requestData : RequestBody → List Byte
  | .read _ => []
  | .write d => d
  | .exec a => a

/-- The data length of a request: for a READ the count of bytes wanted (R1). -/
def requestDataLength : RequestBody → Nat
  | .read wanted => wanted.toNat
  | .write d => d.length
  | .exec a => a.length

/-- The first bytes of a data field, at most 8 (R97). -/
def snippetOf (data : List Byte) : List Byte := data.take 8

/-- A record's station, node and tag from a request (R98). -/
def requestParties (q : Request) : Parties := ⟨q.station, q.node, q.tag⟩

/-- A record's operation and register address from a request (R98). -/
def requestAccess (q : Request) : Access := ⟨requestOperation q.body, q.register⟩

/-- A record about a decided request: the fields that every such kind takes from the entry (R98). -/
def txnRecord (kind : RecordKind) (t : Txn) (cause : Option RecordCause) (snippet : List Byte) : RecordBody where
  kind := kind
  parties := some (requestParties t.request)
  access := some (requestAccess t.request)
  table := t.tableUsed
  decision := none
  ruleSlot := t.ruleSlot
  meter := none
  byFallback := false
  cause := cause
  snippet := snippet

/-- A record about the part and no request: MODE_CHANGE and COMMIT_APPLIED (R98). -/
def partRecord (kind : RecordKind) (table : TableId) (cause : Option RecordCause) : RecordBody where
  kind := kind
  parties := none
  access := none
  table := table
  decision := none
  ruleSlot := none
  meter := none
  byFallback := false
  cause := cause
  snippet := []

/-- The completion record of an answer, where its kind of answer has one (R20). -/
def completionRecord (t : Txn) : Answer → Option RecordBody
  | .node status _ data => some (txnRecord .completed t (some (.nodeStatus status)) (snippetOf data))
  | .refusal .noResponse => some (txnRecord .timedOut t (some (.refusal .noResponse)) [])
  | .refusal .linkDown => some (txnRecord .linkDownAnswer t (some (.refusal .linkDown)) [])
  | .refusal .badTarget => none
  | .refusal .tagInUse => none
  | .refusal .tableFull => none
  | .refusal .rule => none
  | .refusal .meter => none
  | .refusal .holdFull => none
  | .refusal .holdDenied => none
  | .refusal .holdExpired => none

/-! ### The transaction table -/

/-- An entry's state. -/
def State.entryState (s : State) (i : EntryIndex) : EntryState := s.table[i].state

/-- An entry's generation. -/
def State.generation (s : State) (i : EntryIndex) : Byte := s.table[i].generation

/-- An entry is replaced. -/
def State.setEntry (i : EntryIndex) (e : Entry) (s : State) : State := { s with table := s.table.set i.val e i.isLt }

/-- An entry's state changes; its generation is kept (R2). -/
def State.setEntryState (i : EntryIndex) (st : EntryState) (s : State) : State := s.setEntry i ⟨s.generation i, st⟩

/-- The request an entry holds, unless it is FREE. -/
def EntryState.txn? : EntryState → Option Txn
  | .free => none
  | .held t _ => some t
  | .queued t => some t
  | .inFlight t _ => some t
  | .returning t _ => some t

/-- The entry is FREE. -/
def EntryState.isFree : EntryState → Bool
  | .free => true
  | .held _ _ => false
  | .queued _ => false
  | .inFlight _ _ => false
  | .returning _ _ => false

/-- The entry is IN_FLIGHT. -/
def EntryState.isInFlight : EntryState → Bool
  | .free => false
  | .held _ _ => false
  | .queued _ => false
  | .inFlight _ _ => true
  | .returning _ _ => false

/-- The entry is RETURNING. -/
def EntryState.isReturning : EntryState → Bool
  | .free => false
  | .held _ _ => false
  | .queued _ => false
  | .inFlight _ _ => false
  | .returning _ _ => true

/-- Every entry index, ascending. -/
def entryIndices : List EntryIndex := List.finRange Config.entries

/-- The lowest-numbered FREE entry (R6). -/
def State.lowestFree (s : State) : Option EntryIndex := entryIndices.find? fun i => (s.entryState i).isFree

/-- A station and tag are held by an entry that is not FREE (R4 test 2). -/
def State.tagInUse (s : State) (station tag : Byte) : Bool :=
  entryIndices.any fun i => match (s.entryState i).txn? with
    | some t => decide (t.request.station = station ∧ t.request.tag = tag)
    | none => false

/-- The refusal counter of the cause increments; a node response counts nothing (R9 step 2). -/
def State.countAnswer (a : Answer) (s : State) : State :=
  match a with
  | .node _ _ _ => s
  | .refusal c => s.bump (.refusals c)

/-- The completion record is written at log level PAIR (R9 step 3, R20). -/
def State.logCompletion (t : Txn) (a : Answer) (s : State) : State :=
  match t.logLevel with
  | .none => s
  | .decision => s
  | .pair => match completionRecord t a with
    | some b => s.logRecord b
    | none => s

/-- An entry's reference is appended at the tail of the Return queue (R172). -/
def State.joinReturns (i : EntryIndex) (s : State) : State :=
  { s with sPort := { s.sPort with returns := s.sPort.returns ++ [i] } }

/-- A RETURNING entry joins the Return queue, or is freed at once while the S-port is not UP (R9 step 4). -/
def State.queueAnswer (i : EntryIndex) (s : State) : State :=
  if s.sPort.link.isUp then s.joinReturns i
  else State.bump .answersDiscarded (s.setEntryState i .free)

/-- The entry becomes RETURNING (R9). -/
def State.becomeReturning (i : EntryIndex) (t : Txn) (a : Answer) (s : State) : State :=
  State.queueAnswer i (State.logCompletion t a (State.countAnswer a (s.setEntryState i (.returning t a))))

/-- An entry's reference is appended at the tail of the node transmit queue (R177). -/
def State.joinNodeQueue (i : EntryIndex) (s : State) : State :=
  { s with nPort := { s.nPort with queue := s.nPort.queue ++ [i] } }

/-- The forward step (R8). -/
def State.forward (i : EntryIndex) (t : Txn) (s : State) : State :=
  if s.nPort.link.isUp then (s.joinNodeQueue i).setEntryState i (.queued t)
  else s.becomeReturning i t (.refusal .linkDown)

/-- An entry on the node side is answered LINK_DOWN (R16). -/
def State.answerLinkDown (s : State) (i : EntryIndex) : State :=
  match s.entryState i with
  | .queued t => s.becomeReturning i t (.refusal .linkDown)
  | .inFlight t _ => s.becomeReturning i t (.refusal .linkDown)
  | .free => s
  | .held _ _ => s
  | .returning _ _ => s

/-- The IN_FLIGHT entries, in ascending index order. -/
def State.inFlightEntries (s : State) : List EntryIndex := entryIndices.filter fun i => (s.entryState i).isInFlight

/-! ### Holds -/

/-- The hold record of a resolution (R60). -/
def holdRecord (kind : RecordKind) (t : Txn) (cause : Option RefusalCause) (byFallback : Bool) : RecordBody :=
  { txnRecord kind t (cause.map .refusal) (snippetOf (requestData t.request.body)) with byFallback := byFallback }

/-- An entry's reference leaves the hold queue; the order of the others is unchanged (R46). -/
def State.dropHold (i : EntryIndex) (s : State) : State :=
  { s with holdQueue := s.holdQueue.filter fun r => r.index ≠ i }

/-- The removal of R50: the reference leaves the hold queue, HOLD_WAITING follows, the hold record is written.
The deadline goes with the entry's HELD state, which the resolution replaces in the same step. -/
def State.removeHold (i : EntryIndex) (record : RecordBody) (s : State) : State :=
  State.logRecord record (s.dropHold i).followHolds

/-- A hold default is applied (R57 step 3). -/
def State.applyDefault (i : EntryIndex) (t : Txn) (d : PassRefuse) (s : State) : State :=
  match d with
  | .pass => s.forward i t
  | .refuse => s.becomeReturning i t (.refusal .holdExpired)

/-- The cause a HOLD_EXPIRED record carries for a default (R60). -/
def defaultCause : PassRefuse → Option RefusalCause
  | .pass => none
  | .refuse => some .holdExpired

/-- A HELD entry is resolved by its default at fallback entry (R59). -/
def State.resolveByFallback (s : State) (r : HoldRef) : State :=
  match s.entryState r.index with
  | .held t h =>
    (s.removeHold r.index (holdRecord .holdExpired t (defaultCause h.default) true)).applyDefault r.index t h.default
  | .free => s
  | .queued _ => s
  | .inFlight _ _ => s
  | .returning _ _ => s

/-! ### Boundaries and commits -/

/-- The epoch length in force (R65). -/
def State.epochLength (s : State) : Nat :=
  match s.control.mode with
  | .governed => s.active.params.epochLength
  | .fallback => Config.fallbackEpochLength

/-- The table in force (R27, R98). -/
def State.tableInForce (s : State) : TableId :=
  match s.control.mode with
  | .governed => .active s.commit.generation
  | .fallback => .fallback

/-- A 16-bit number that wraps from 65,535 to 1 (R80, R128, R137). -/
def nextNumber (n : Half) : Half := if n = 0xFFFF then 1 else n + 1

/-- Every consumed count to 0; the exceed counts are kept (R75, R76). -/
def clearConsumed (ms : Vector Meter Config.meters) : Vector Meter Config.meters :=
  ⟨⟨ms.toList.map fun m => { m with consumed := 0 }⟩, by simp⟩

/-- Commit Control applies the pending commit: R87 steps 1 to 7. -/
def State.applyCommit (s : State) : State :=
  let s := { s with
    active := s.shadow
    commit := { s.commit with generation := nextNumber s.commit.generation }
    meters := clearConsumed s.meters }
  let s := State.setStatus .commitApplied (s.bump .commitsApplied)
  let s := s.logRecord (partRecord .commitApplied (.active s.commit.generation) none)
  { s with commit := { s.commit with state := .idle } }

/-- A boundary (R66): the epoch moves on, the meters reset (R75), a pending commit is applied (R87). -/
def State.takeBoundary (s : State) : State :=
  let s := { s with
    epoch := { s.epoch with number := s.epoch.number + 1, offset := 0 }
    meters := clearConsumed s.meters }
  match s.commit.state with
  | .idle => s
  | .pending => s.applyCommit

/-- After a change of mode: a boundary at once if the offset is at or above the new length (R65). -/
def State.adoptEpochLength (s : State) : State :=
  if s.epochLength ≤ s.epoch.offset then s.takeBoundary else s

/-! ### The liveness timer and the session -/

/-- The time at which the liveness timer loaded now expires (R155). -/
def State.livenessDeadline (s : State) : Nat := s.now + millis (100 * s.control.period)

/-- The liveness timer is loaded and RUNNING (R155, R156). -/
def State.loadLiveness (s : State) : State :=
  { s with control := { s.control with liveness := .running s.livenessDeadline } }

/-- A session is opened for a station: R132 steps 1 to 5. -/
def State.startSession (owner : Byte) (s : State) : State :=
  State.evalNotice (State.loadLiveness
    { s with session := { s.session with
        current := some ⟨owner, 1, none⟩
        number := nextNumber s.session.number } })

/-- The session ends: R142 steps 1 to 3, and a loss (R143, R158). -/
def State.endSession (s : State) : State :=
  State.withdrawNotice
    { s with
      session := { s.session with current := none }
      control := { s.control with liveness := .disarmed } }

/-! ### Mode changes -/

/-- A pending commit is cancelled at fallback entry (R90). -/
def State.cancelCommit (s : State) : State :=
  match s.commit.state with
  | .idle => s
  | .pending => State.bump .commitsCancelled { s with commit := { s.commit with state := .idle } }

/-- The fallback record after a fallback entry (R163). -/
def State.nextFallbackRecord (cause : FallbackCause) (s : State) : FallbackRecord where
  count := if s.control.fallbackRecord.count < 65535 then s.control.fallbackRecord.count + 1
    else s.control.fallbackRecord.count
  lastCause := some cause
  epochAtEntry := some s.epoch.number

/-- What the blocks do at fallback entry: R160 steps 1 to 7. -/
def State.fallbackSteps (cause : FallbackCause) (s : State) : State :=
  let s := { s with control := { s.control with mode := .fallback } }
  let s := s.cancelCommit
  let s := s.holdQueue.foldl State.resolveByFallback s
  let s := { s with control := { s.control with fallbackRecord := s.nextFallbackRecord cause } }
  let s := s.setStatus .fallbackEntered
  let s := s.logRecord (partRecord .modeChange .fallback (some (.modeChange cause.modeCause)))
  s.adoptEpochLength

/-- The notice sender and the Notice slot are replaced. -/
def State.setSender (sender : NoticeSender) (slot : Option Notice) (s : State) : State :=
  { s with notice := sender, sPort := { s.sPort with slot := slot } }

/-- Fallback entry, as one step (R160). No other event is taken between its parts, so the notice condition is evaluated when
they are complete: no NOTICE shows FALLBACK with a request held or a commit pending (R152). Log 11. -/
def State.enterFallback (cause : FallbackCause) (s : State) : State :=
  State.evalNotice (State.setSender s.notice s.sPort.slot (s.fallbackSteps cause))

/-- The return to GOVERNED: R164 steps 1 to 3. -/
def State.resumeGoverned (s : State) : State :=
  let s := { s with control := { s.control with mode := .governed } }
  let s := s.logRecord (partRecord .modeChange s.tableInForce (some (.modeChange .resume)))
  s.adoptEpochLength

/-! ### The management reset -/

/-- How many entries are not FREE (R22). -/
def State.entriesInUse (s : State) : Nat := entryIndices.countP fun i => !(s.entryState i).isFree

/-- The management reset, as one step (R148). -/
def State.managementReset (s : State) : State :=
  { s with
    resetCause := ⟨.management, s.entriesInUse⟩
    table := resetTable
    holdQueue := []
    active := resetBank
    shadow := resetBank
    commit := resetCommit
    epoch := resetEpoch
    meters := resetMeters
    events := resetEvents
    notice := resetNotice
    session := { s.session with current := none, resetAwaited := false }
    control := { s.control with
      mode := startMode s.control.start
      liveness := .disarmed
      period := resetPeriod }
    sPort := { s.sPort with replies := [], slot := none, returns := [], refusals := [], sending := none }
    nPort := { s.nPort with queue := [], busy := false }
    counters := resetCounters }

/-! ### The transmitters -/

/-- The arbiter's choice: the first queue that is not empty, in the order of R173. -/
def StationPort.choice (p : StationPort) : Option Sending :=
  if !p.replies.isEmpty then some (.reply 0)
  else if p.slot.isSome then some .notice
  else if !p.returns.isEmpty then some .answer
  else if !p.refusals.isEmpty then some .refusal
  else none

/-- The S-port transmitter after a step: an idle one on an UP port takes the arbiter's choice (R173). -/
def StationPort.arbitrated (p : StationPort) : Option Sending :=
  match p.sending with
  | some x => some x
  | none => if p.link.isUp then p.choice else none

/-- The N-port transmitter after a step: an idle one on an UP port takes the head of its queue (R177). -/
def NodePort.started (p : NodePort) : Bool := p.busy || (p.link.isUp && !p.queue.isEmpty)

/-- At the end of a step the two transmitters take what the step left in their queues (R173, R177). -/
def State.settle (s : State) : State :=
  { s with
    sPort := { s.sPort with sending := s.sPort.arbitrated }
    nPort := { s.nPort with busy := s.nPort.started } }

/-! ### Taking a command of the queue -/

/-- An event reaches the part: no event does while it is held in reset (R21, log 7), and a step ends with the
transmitters settled. -/
def taken (effect : State → State) (s : State) : Host.Outcome State Fault Refusal :=
  .next (if s.heldInReset then s else State.settle (effect s))

/-- A port's reception is over: its frame has been dealt with and its arrival stamp let go (R68). -/
def State.endReception (p : PortName) (s : State) : State := s.setLink p (.up none)

/-- A complete frame reaches a port. None does on a port that is not UP (R168, log 6). -/
def frameAt (p : PortName) (effect : State → State) : State → Host.Outcome State Fault Refusal :=
  taken fun s => if (s.link p).isUp then effect (s.endReception p) else s

/-- A frame that passed the checks is counted, and its reception is over (R68, R170). -/
def State.accept (p : PortName) (s : State) : State := State.bump (.framesAccepted p) (s.endReception p)

/-- An accepted frame is counted and handed on (R170, R171). -/
def acceptedAt (p : PortName) (effect : State → State) : State → Host.Outcome State Fault Refusal :=
  taken fun s => if (s.link p).isUp then effect (s.accept p) else s

/-- The counter of a failed reception check (R170, R179). -/
def checkCounter (p : PortName) : FrameCheck → Counter
  | .length => .malformed p
  | .checkSequence => .checkFailures p
  | .addresses => .malformed p
  | .kindForPort => .wrongKind p

end Sys2Proof.Machine
end

