-- ==== Sys2Proof/Machine/Agent.lean ====
section
/-! DEFINITION. The path a COMMAND frame takes through the Management Agent (section 8.2, R129 to R140). -/
namespace Sys2Proof.Machine

/-- What executing a command gives: the part's state after its effect, the result and the payload (R130). -/
structure Answered where
  state : State
  result : ResultCode
  payload : List Byte

/-- The command changes nothing and is answered with a result and a payload. -/
def State.answer (s : State) (result : ResultCode) (payload : List Byte) : Answered := ⟨s, result, payload⟩

/-- BAD_FIELD naming the field at a place of the check order, with the meter number where one belongs (R187). -/
def State.badField (s : State) (place : Nat) (meter : Nat := 0) : Answered :=
  s.answer .badField (bigEndian 1 place ++ bigEndian 1 meter)

/-- A reply to a COMMAND frame (R130). -/
def replyTo (code : Byte) (h : CommandHeader) (result : ResultCode) (payload : List Byte) : Reply where
  destination := h.source
  tag := h.tag
  code := code
  sequence := h.sequence
  result := result
  payload := payload

/-- A reply is appended at the tail of the Reply queue (R130). -/
def State.pushReply (r : Reply) (s : State) : State :=
  { s with sPort := { s.sPort with replies := s.sPort.replies ++ [r] } }

/-- A COMMAND frame reaches the Agent: it is discarded while a management reset is awaited (R147), and counted as an
overrun and discarded when the Reply queue is full (R129). -/
def agent (effect : State → State) : State → Host.Outcome State Fault Refusal :=
  acceptedAt .station fun s =>
    if s.session.resetAwaited then s
    else if s.sPort.replies.length < Config.replyCapacity then effect s
    else s.bump .managementOverruns

/-- An owner's bytes in SESSION_BUSY, NOT_OWNER, PROBE and GET_STATUS: an optional item (R187). -/
def ownerBytes (o : Option OpenSession) : List Byte := optionalItem 1 (o.map (·.owner.toNat))

/-- The owner and the session number (R134, R136, R187). -/
def State.ownerPayload (s : State) : List Byte := ownerBytes s.session.current ++ bigEndian 2 s.session.number.toNat

/-- A command is answered and nothing else happens: no caching, no sequence advance, no reload (R136, R139). -/
def State.turnAway (s : State) (code : Byte) (h : CommandHeader) (result : ResultCode) (payload : List Byte) : State :=
  s.pushReply (replyTo code h result payload)

/-- What R137 does for a new command after its execution: the reply is cached and queued, the sequence advances, the
liveness timer is reloaded. -/
def answerNew (code : Byte) (h : CommandHeader) (o : OpenSession) (r : Answered) : State :=
  let reply := replyTo code h r.result r.payload
  let s := r.state
  State.pushReply reply (State.loadLiveness
    { s with session := { s.session with
        current := some { o with expected := nextNumber o.expected, last := some ⟨h.sequence, reply⟩ } } })

/-- A duplicate is answered from the reply cache and reloads the liveness timer (R138). -/
def State.answerDuplicate (s : State) (cached : Reply) : State := State.pushReply cached s.loadLiveness

/-- The sequence check for a command that is not new: duplicate, or SEQUENCE_ERROR with the expected sequence
(R138, R139). -/
def State.notNew (s : State) (code : Byte) (h : CommandHeader) (o : OpenSession) : State :=
  match o.last with
  | some l =>
    if l.sequence = h.sequence then s.answerDuplicate l.reply
    else s.turnAway code h .sequenceError (bigEndian 2 o.expected.toNat)
  | none => s.turnAway code h .sequenceError (bigEndian 2 o.expected.toNat)

/-- The session checks and the sequence check (R136 to R139); a new command goes on. -/
def sessionChecked (code : Byte) (h : CommandHeader) (onNew : OpenSession → State → State) (s : State) : State :=
  match s.session.current with
  | none => s.turnAway code h .noSession []
  | some o =>
    if h.source = o.owner then
      if h.sequence = o.expected then onNew o s else s.notNew code h o
    else s.turnAway code h .notOwner s.ownerPayload

/-- A new command is executed when its arguments have its form, and is answered BAD_FIELD naming the arguments
otherwise (R140). -/
def executed (c : CommandName) (args : List Byte) (body : State → Answered) (s : State) : Answered :=
  if args.length = c.argBytes then body s else s.badField 0

/-- A command of the session (sections 8.2 and 8.4). -/
def command (c : CommandName) (h : CommandHeader) (args : List Byte) (body : State → Answered) :
    State → Host.Outcome State Fault Refusal :=
  agent (sessionChecked c.code h fun o s => answerNew c.code h o (executed c args body s))

/-- The checks PROBE and OPEN make first: sequence number 0, no argument bytes (R130). -/
def sessionless (c : CommandName) (h : CommandHeader) (args : List Byte) (effect : State → State) :
    State → Host.Outcome State Fault Refusal :=
  agent fun s =>
    if h.sequence ≠ 0 then s.turnAway c.code h .badField (bigEndian 1 255 ++ bigEndian 1 0)
    else if args ≠ [] then s.turnAway c.code h .badField (bigEndian 1 0 ++ bigEndian 1 0)
    else effect s

end Sys2Proof.Machine
end

