-- ==== Sys2Proof/Machine/RuleCommands.lean ====
section
/-! DEFINITION. The meanings of the commands that load and read the banks and the fallback table. -/
namespace Sys2Proof.Machine

/-! ### Loading the shadow bank -/

/-- The first test of a shadow write: COMMIT_PENDING while a commit is pending (R36, R84). -/
def shadowWrite (body : State → Answered) (s : State) : Answered :=
  match s.commit.state with
  | .pending => s.answer .commitPending []
  | .idle => body s

/-- A slot of the shadow bank is written or emptied; a number above 127 names no slot. -/
def State.putShadowSlot (slot : Nat) (r : Option Rule) (s : State) : State :=
  if hs : slot < Config.bankSlots then
    { s with shadow := { s.shadow with slots := s.shadow.slots.set slot r hs } }
  else s

/-- WRITE_RULE, its fields checked in order (R37). -/
def writeRuleBody (args : List Byte) (s : State) : Answered :=
  let slot := field args 0 1
  let r := readRuleRecord (args.drop 1)
  match firstFailing (r.bankFaults slot) with
  | some place => s.badField place
  | none => (s.putShadowSlot slot (some r.toRule)).answer .done []

/-- WRITE_RULE (R36, R37). -/
def execWriteRule (h : CommandHeader) (args : List Byte) : State → Host.Outcome State Fault Refusal :=
  command .writeRule h args (shadowWrite (writeRuleBody args))

/-- ERASE_RULE, its field checked (R38). -/
def eraseRuleBody (args : List Byte) (s : State) : Answered :=
  if 127 < field args 0 1 then s.badField 1 else (s.putShadowSlot (field args 0 1) none).answer .done []

/-- ERASE_RULE (R36, R38). -/
def execEraseRule (h : CommandHeader) (args : List Byte) : State → Host.Outcome State Fault Refusal :=
  command .eraseRule h args (shadowWrite (eraseRuleBody args))

/-- All shadow slots become empty; the parameters are kept (R38). -/
def State.clearShadow (s : State) : State :=
  { s with shadow := { s.shadow with slots := Vector.replicate Config.bankSlots none } }

/-- CLEAR_SHADOW (R36, R38). -/
def execClearShadow (h : CommandHeader) (args : List Byte) : State → Host.Outcome State Fault Refusal :=
  command .clearShadow h args (shadowWrite fun s => s.clearShadow.answer .done [])

/-- The whole active bank is copied into the shadow bank (R38). -/
def State.copyActive (s : State) : State := { s with shadow := s.active }

/-- COPY_ACTIVE_TO_SHADOW (R36, R38). -/
def execCopyActiveToShadow (h : CommandHeader) (args : List Byte) : State → Host.Outcome State Fault Refusal :=
  command .copyActiveToShadow h args (shadowWrite fun s => s.copyActive.answer .done [])

/-- WRITE_BANK_PARAMS, its fields checked in order (R39). -/
def writeBankParamsBody (args : List Byte) (s : State) : Answered :=
  match paramsFault args with
  | some (place, meter) => s.badField place meter
  | none => State.answer { s with shadow := { s.shadow with params := readParams args } } .done []

/-- WRITE_BANK_PARAMS (R36, R39). -/
def execWriteBankParams (h : CommandHeader) (args : List Byte) : State → Host.Outcome State Fault Refusal :=
  command .writeBankParams h args (shadowWrite (writeBankParamsBody args))

/-! ### Reading the banks -/

/-- The bank a name means. -/
def State.bank (s : State) : BankName → Bank
  | .active => s.active
  | .shadow => s.shadow

/-- The active bank's generation and the commit state (R40). -/
def State.commitPayload (s : State) : List Byte := bigEndian 2 s.commit.generation.toNat ++ [s.commit.state.code]

/-- READ_RULE, its fields checked in order (R40). -/
def readRuleBody (args : List Byte) (s : State) : Answered :=
  match readBankName (byteAt args 0) with
  | none => s.badField 1
  | some b =>
    if hs : field args 1 1 < Config.bankSlots then
      s.answer .done ([b.code] ++ bigEndian 1 (field args 1 1) ++ slotBytes ((s.bank b).slots[field args 1 1])
        ++ s.commitPayload)
    else s.badField 2

/-- READ_RULE (R40). -/
def execReadRule (h : CommandHeader) (args : List Byte) : State → Host.Outcome State Fault Refusal :=
  command .readRule h args (readRuleBody args)

/-- READ_BANK_PARAMS, its field checked (R40). -/
def readBankParamsBody (args : List Byte) (s : State) : Answered :=
  match readBankName (byteAt args 0) with
  | none => s.badField 1
  | some b => s.answer .done (paramsBytes (s.bank b).params ++ s.commitPayload)

/-- READ_BANK_PARAMS (R40). -/
def execReadBankParams (h : CommandHeader) (args : List Byte) : State → Host.Outcome State Fault Refusal :=
  command .readBankParams h args (readBankParamsBody args)

/-! ### The fallback table -/

/-- The first test of a fallback write: IN_FALLBACK in mode FALLBACK (R41). -/
def fallbackWrite (body : State → Answered) (s : State) : Answered :=
  match s.control.mode with
  | .fallback => s.answer .inFallback []
  | .governed => body s

/-- A slot of the fallback table is written or emptied; a number above 7 names no slot. -/
def State.putFallbackSlot (slot : Nat) (r : Option FallbackRule) (s : State) : State :=
  if hs : slot < Config.fallbackSlots then
    { s with fallback := { s.fallback with slots := s.fallback.slots.set slot r hs } }
  else s

/-- WRITE_FALLBACK_RULE, its fields checked in order (R42). -/
def writeFallbackRuleBody (args : List Byte) (s : State) : Answered :=
  let slot := field args 0 1
  let r := readRuleRecord (args.drop 1)
  match firstFailing (r.fallbackFaults slot) with
  | some place => s.badField place
  | none => (s.putFallbackSlot slot (some r.toFallbackRule)).answer .done []

/-- WRITE_FALLBACK_RULE (R41, R42). -/
def execWriteFallbackRule (h : CommandHeader) (args : List Byte) : State → Host.Outcome State Fault Refusal :=
  command .writeFallbackRule h args (fallbackWrite (writeFallbackRuleBody args))

/-- ERASE_FALLBACK_RULE, its field checked (R42). -/
def eraseFallbackRuleBody (args : List Byte) (s : State) : Answered :=
  if 7 < field args 0 1 then s.badField 1 else (s.putFallbackSlot (field args 0 1) none).answer .done []

/-- ERASE_FALLBACK_RULE (R41, R42). -/
def execEraseFallbackRule (h : CommandHeader) (args : List Byte) : State → Host.Outcome State Fault Refusal :=
  command .eraseFallbackRule h args (fallbackWrite (eraseFallbackRuleBody args))

/-- WRITE_FALLBACK_PARAMS, its fields checked in order (R42). -/
def writeFallbackParamsBody (args : List Byte) (s : State) : Answered :=
  match readMissAction (byteAt args 0) with
  | none => s.badField 1
  | some miss =>
    if field args 1 1 = 0 then s.badField 2
    else State.answer { s with fallback := { s.fallback with
      missAction := miss
      responseTimeout := field args 1 1 } } .done []

/-- WRITE_FALLBACK_PARAMS (R41, R42). -/
def execWriteFallbackParams (h : CommandHeader) (args : List Byte) : State → Host.Outcome State Fault Refusal :=
  command .writeFallbackParams h args (fallbackWrite (writeFallbackParamsBody args))

/-- READ_FALLBACK, its field checked (R43). -/
def readFallbackBody (args : List Byte) (s : State) : Answered :=
  if hs : field args 0 1 < Config.fallbackSlots then
    s.answer .done ([s.fallback.missAction.code] ++ bigEndian 1 s.fallback.responseTimeout
      ++ bigEndian 1 (field args 0 1) ++ slotBytes ((s.fallback.slots[field args 0 1]).map FallbackRule.toRule)
      ++ [s.control.mode.code])
  else s.badField 1

/-- READ_FALLBACK (R43). -/
def execReadFallback (h : CommandHeader) (args : List Byte) : State → Host.Outcome State Fault Refusal :=
  command .readFallback h args (readFallbackBody args)

end Sys2Proof.Machine
end

