-- ==== Sys2Proof/Machine/CommitCommands.lean ====
section
/-! DEFINITION. The meanings of COMMIT and ABORT_COMMIT. -/
namespace Sys2Proof.Machine

/-- A window offset that does not fit the shadow bank's epoch length (R82). -/
structure WindowFault where
  slot : Nat
  closing : Bool
  offset : Nat
  deriving DecidableEq, Repr

/-- The fault of one rule's window: the open offset is tested first (R82). -/
def windowFault (length slot : Nat) (w : Window) : Option WindowFault :=
  if length ≤ w.openOffset then some ⟨slot, false, w.openOffset⟩
  else if length ≤ w.closeOffset then some ⟨slot, true, w.closeOffset⟩
  else none

/-- The first offending slot, scanning ascending from a slot number (R82). -/
def firstWindowFault (length : Nat) : Nat → List (Option Rule) → Option WindowFault
  | _, [] => none
  | n, none :: rest => firstWindowFault length (n + 1) rest
  | n, some r :: rest =>
    match r.window.bind (windowFault length n) with
    | some f => some f
    | none => firstWindowFault length (n + 1) rest

/-- The validation of a bank (R82): the first offending window, if any. -/
def Bank.windowFault (b : Bank) : Option WindowFault := firstWindowFault b.params.epochLength 0 b.slots.toList

/-- The payload of COMMIT_REJECTED: slot, reason, offending offset, shadow epoch length (R82, R187). -/
def rejectedPayload (f : WindowFault) (length : Nat) : List Byte :=
  bigEndian 1 f.slot ++ [if f.closing then 2 else 1] ++ bigEndian 3 f.offset ++ bigEndian 3 length

/-- The payload of ACCEPTED (R83). -/
def State.acceptedPayload (s : State) : List Byte :=
  bigEndian 2 s.commit.generation.toNat ++ bigEndian 2 (nextNumber s.commit.generation).toNat
    ++ bigEndian 4 s.epoch.number.toNat ++ bigEndian 3 s.epoch.offset ++ bigEndian 3 s.epochLength

/-- COMMIT: the tests of R81 in order, then acceptance (R83). -/
def commitBody (s : State) : Answered :=
  match s.control.mode, s.commit.state with
  | .fallback, _ => s.answer .inFallback []
  | .governed, .pending => s.answer .commitPending []
  | .governed, .idle =>
    match s.shadow.windowFault with
    | some f => s.answer .commitRejected (rejectedPayload f s.shadow.params.epochLength)
    | none => State.answer { s with commit := { s.commit with state := .pending } } .accepted s.acceptedPayload

/-- COMMIT (R81 to R83). -/
def execCommit (h : CommandHeader) (args : List Byte) : State → Host.Outcome State Fault Refusal :=
  command .commit h args commitBody

/-- ABORT_COMMIT: a pending commit is given up, or NOTHING_PENDING (R85). -/
def abortCommitBody (s : State) : Answered :=
  match s.commit.state with
  | .pending =>
    let after := { s with commit := { s.commit with state := .idle } }
    State.answer after .done (State.commitPayload after)
  | .idle => s.answer .nothingPending s.commitPayload

/-- ABORT_COMMIT (R85). -/
def execAbortCommit (h : CommandHeader) (args : List Byte) : State → Host.Outcome State Fault Refusal :=
  command .abortCommit h args abortCommitBody

end Sys2Proof.Machine
end

