-- ==== Sys2Proof/Machine/Classify.lean ====
section
/-! DEFINITION. Admission and classification of a request (R4 to R6, R27 to R35). -/
namespace Sys2Proof.Machine

/-! ### Matching -/

/-- The operation set holds the operation (R28 condition 2). -/
def OperationSet.holds (o : OperationSet) : Operation → Bool
  | .read => o.read
  | .write => o.write
  | .exec => o.exec

/-- Conditions 1 to 4 of R28. -/
def Selector.selects (s : Selector) (q : Request) : Bool :=
  decide (s.nodeLow.toNat ≤ q.node.toNat ∧ q.node.toNat ≤ s.nodeHigh.toNat)
    && s.operations.holds (requestOperation q.body)
    && decide (s.registerLow.toNat ≤ q.register.toNat ∧ q.register.toNat ≤ s.registerHigh.toNat)
    && (match s.stations with
        | none => true
        | some l => l.contains q.station)

/-- The offset lies in the window; a window whose open offset is above its close offset wraps (R28). -/
def Window.contains (w : Window) (offset : Nat) : Bool :=
  if w.openOffset < w.closeOffset then decide (w.openOffset ≤ offset ∧ offset < w.closeOffset)
  else decide (w.openOffset ≤ offset ∨ offset < w.closeOffset)

/-- A request with an arrival offset matches a rule (R28). -/
def Rule.matchesRequest (r : Rule) (q : Request) (offset : Nat) : Bool :=
  r.selector.selects q && (match r.window with
    | none => true
    | some w => w.contains offset)

/-- The first rule that matches, scanning ascending from a slot number and passing over empty slots (R29). -/
def firstMatch (q : Request) (offset : Nat) : Nat → List (Option Rule) → Option (Nat × Rule)
  | _, [] => none
  | n, none :: rest => firstMatch q offset (n + 1) rest
  | n, some r :: rest => if r.matchesRequest q offset then some (n, r) else firstMatch q offset (n + 1) rest

/-- What a miss action decides for an operation (R29). -/
def MissAction.decides : MissAction → Operation → RuleAction
  | .pass, _ => .pass
  | .refuse, _ => .refuse
  | .passReads, .read => .pass
  | .passReads, .write => .refuse
  | .passReads, .exec => .refuse

/-- What the table in force decides for a request (R30). -/
structure Verdict where
  table : TableId
  slot : Option Nat
  action : RuleAction
  logLevel : LogLevel
  responseTimeout : Nat
  deriving DecidableEq, Repr

/-- A table's verdict: the first match, or else the miss (R29, R30). -/
def verdictOf (table : TableId) (slots : List (Option Rule)) (miss : MissAction) (missLevel : LogLevel)
    (timeout : Nat) (q : Request) (offset : Nat) : Verdict :=
  match firstMatch q offset 0 slots with
  | some (n, r) => ⟨table, some n, r.action, r.logLevel, timeout⟩
  | none => ⟨table, none, miss.decides (requestOperation q.body), missLevel, timeout⟩

/-- The verdict of the table in force (R27). -/
def State.verdict (s : State) (q : Request) (offset : Nat) : Verdict :=
  match s.control.mode with
  | .governed =>
    verdictOf (.active s.commit.generation) s.active.slots.toList s.active.params.missAction
      (if s.active.params.missLogging then .decision else .none) s.active.params.responseTimeout q offset
  | .fallback =>
    verdictOf .fallback (s.fallback.slots.toList.map (·.map FallbackRule.toRule)) s.fallback.missAction .none
      s.fallback.responseTimeout q offset

/-- The decision field an action gives (R30). -/
def RuleAction.decision : RuleAction → Decision
  | .pass => .pass
  | .refuse => .refuse
  | .hold _ _ => .hold
  | .meter _ => .meter

/-- The entry fields written at admission and classification (R6, R30). -/
def txnOf (q : Request) (stamp : Stamp) (v : Verdict) : Txn where
  request := q
  arrivalOffset := stamp.offset
  tableUsed := v.table
  ruleSlot := v.slot
  decision := v.action.decision
  logLevel := v.logLevel
  responseTimeout := v.responseTimeout

/-! ### The DECISION record -/

/-- The DECISION record of an outcome (R31). -/
def decisionRecord (t : Txn) (outcome : LoggedDecision) (meter : Option MeterMark) (cause : Option RefusalCause) :
    RecordBody :=
  { txnRecord .decision t (cause.map .refusal) (snippetOf (requestData t.request.body)) with
    decision := some outcome
    meter := meter }

/-- The DECISION record is written at log level DECISION or PAIR (R31). -/
def State.logDecision (t : Txn) (b : RecordBody) (s : State) : State :=
  match t.logLevel with
  | .none => s
  | .decision => s.logRecord b
  | .pair => s.logRecord b

/-! ### The four decisions -/

/-- A meter's counts are replaced. -/
def State.setMeter (m : Fin Config.meters) (x : Meter) (s : State) : State :=
  { s with meters := s.meters.set m.val x m.isLt }

/-- The settings of a meter in the active bank (R34). -/
def State.meterSetting (s : State) (m : Fin Config.meters) : MeterSetting := s.active.params.meters[m]

/-- The meter is within its budget (R34). -/
def State.withinBudget (s : State) (m : Fin Config.meters) : Bool :=
  decide (s.meters[m].consumed.toNat < (s.meterSetting m).budget.toNat)

/-- A decision of PASS (R32). -/
def State.decidePass (i : EntryIndex) (t : Txn) (s : State) : State :=
  State.forward i t (s.logDecision t (decisionRecord t .pass none none))

/-- A decision of REFUSE (R32). -/
def State.decideRefuse (i : EntryIndex) (t : Txn) (s : State) : State :=
  State.becomeReturning i t (.refusal .rule) (s.logDecision t (decisionRecord t .refuse none (some .rule)))

/-- Hold Control takes the entry: R47 steps 1 to 5. -/
def State.becomeHeld (i : EntryIndex) (t : Txn) (limit : Nat) (d : PassRefuse) (s : State) : State :=
  let s := s.setEntryState i (.held t ⟨limit, d, s.now + millis limit⟩)
  State.followHolds { s with holdQueue := s.holdQueue ++ [⟨i, s.generation i⟩] }

/-- A decision of HOLD (R33). -/
def State.decideHold (i : EntryIndex) (t : Txn) (limit : Nat) (d : PassRefuse) (s : State) : State :=
  if s.holdQueue.length < Config.holdCapacity then
    State.becomeHeld i t limit d (s.logDecision t (decisionRecord t .hold none none))
  else
    State.setStatus .holdOverflow (State.becomeReturning i t (.refusal .holdFull)
      (s.logDecision t (decisionRecord t .hold none (some .holdFull))))

/-- A decision of METER (R34, R35). -/
def State.decideMeter (i : EntryIndex) (t : Txn) (m : Fin Config.meters) (s : State) : State :=
  let x := s.meters[m]
  if s.withinBudget m then
    let s := s.setMeter m { x with consumed := x.consumed + 1 }
    State.forward i t (s.logDecision t (decisionRecord t .pass (some ⟨m, false⟩) none))
  else
    let action := (s.meterSetting m).exceed
    let s := State.setStatus .meterExceeded (s.setMeter m { x with exceed := x.exceed + 1 })
    match action with
    | .refuse => State.becomeReturning i t (.refusal .meter)
        (s.logDecision t (decisionRecord t .refuse (some ⟨m, true⟩) (some .meter)))
    | .passFlagged => State.forward i t (s.logRecord (decisionRecord t .pass (some ⟨m, true⟩) none))

/-- The decision moves the entry on (R32 to R35). -/
def State.decideBy (i : EntryIndex) (t : Txn) (a : RuleAction) (s : State) : State :=
  match a with
  | .pass => s.decidePass i t
  | .refuse => s.decideRefuse i t
  | .hold limit d => s.decideHold i t limit d
  | .meter m => s.decideMeter i t m

/-! ### Admission -/

/-- The entry an arriving request gets, or the first admission test it fails (R4). -/
def State.admission (s : State) (q : Request) : Except RefusalCause EntryIndex :=
  if q.node = s.control.ownAddress then .error .badTarget
  else if s.tagInUse q.station q.tag then .error .tagInUse
  else match s.lowestFree with
    | none => .error .tableFull
    | some i => .ok i

/-- The ADMISSION_REFUSED record (R5, R98). -/
def admissionRecord (s : State) (q : Request) (c : RefusalCause) : RecordBody where
  kind := .admissionRefused
  parties := some (requestParties q)
  access := some (requestAccess q)
  table := s.tableInForce
  decision := none
  ruleSlot := none
  meter := none
  byFallback := false
  cause := some (.refusal c)
  snippet := snippetOf (requestData q.body)

/-- A refusal made at admission joins its queue, or is dropped when four are waiting (R5). -/
def State.queueRefusal (r : AdmissionRefusal) (s : State) : State :=
  if s.sPort.refusals.length < Config.refusalCapacity then
    { s with sPort := { s.sPort with refusals := s.sPort.refusals ++ [r] } }
  else s.bump .refusalsDropped

/-- ADMISSION_FULL is set for cause TABLE_FULL (R5). -/
def State.flagFullTable (c : RefusalCause) (s : State) : State :=
  if c = .tableFull then s.setStatus .admissionFull else s

/-- A request is refused at admission (R5). -/
def State.refuseAdmission (q : Request) (c : RefusalCause) (s : State) : State :=
  let s := State.flagFullTable c (State.queueRefusal ⟨q.station, q.tag, c⟩ (s.bump (.refusals c)))
  if s.log.refusalLogging then s.logRecord (admissionRecord s q c) else s

/-- A request is given an entry and decided at once (R6). -/
def State.allocate (i : EntryIndex) (q : Request) (stamp : Stamp) (s : State) : State :=
  let v := s.verdict q stamp.offset
  let s := State.bump .requestsAdmitted (s.setEntry i ⟨s.generation i + 1, .free⟩)
  s.decideBy i (txnOf q stamp v) v.action

/-- An accepted REQUEST is handed to the transaction table (R4, R171). -/
def State.receiveRequest (q : Request) (stamp : Stamp) (s : State) : State :=
  match s.admission q with
  | .error c => s.refuseAdmission q c
  | .ok i => s.allocate i q stamp

end Sys2Proof.Machine
end

