-- ==== Sys2Proof/Machine/Traffic.lean ====
section
/-! DEFINITION. The meanings of the frame arrivals, the response deadline and the transmission completions. -/
namespace Sys2Proof.Machine

/-- FRAME_REJECTED: a complete frame fails a check, is discarded and counted (R170). -/
def execFrameRejected (p : PortName) (failed : FrameCheck) : State → Host.Outcome State Fault Refusal :=
  frameAt p fun s => s.bump (checkCounter p failed)

/-- REQUEST_ARRIVAL: an accepted REQUEST is given an entry and decided, or refused at admission (R4). -/
def execRequestArrival (q : Request) (stamp : Stamp) : State → Host.Outcome State Fault Refusal :=
  acceptedAt .station fun s => s.receiveRequest q stamp

/-- The entry a RESPONSE matches: IN_FLIGHT, with its station, tag and node (R11). -/
def State.responseMatch (s : State) (r : Response) : Option (EntryIndex × Txn) :=
  entryIndices.findSome? fun i => match s.entryState i with
    | .inFlight t _ =>
      if t.request.station = r.station ∧ t.request.tag = r.tag ∧ t.request.node = r.node then some (i, t) else none
    | .free => none
    | .held _ _ => none
    | .queued _ => none
    | .returning _ _ => none

/-- The STRAY record (R13, R98). -/
def strayRecord (s : State) (r : Response) : RecordBody where
  kind := .stray
  parties := some ⟨r.station, r.node, r.tag⟩
  access := none
  table := s.tableInForce
  decision := none
  ruleSlot := none
  meter := none
  byFallback := false
  cause := some (.nodeStatus r.status)
  snippet := snippetOf r.data

/-- A stray response is counted, sets its status and is logged when the setting is on (R13). -/
def State.takeStray (r : Response) (s : State) : State :=
  let s := State.setStatus .strayResponse (s.bump .strays)
  if s.log.strayLogging then s.logRecord (strayRecord s r) else s

/-- RESPONSE_ARRIVAL: an accepted RESPONSE answers the entry it matches, or is a stray (R11, R13). -/
def execResponseArrival (r : Response) : State → Host.Outcome State Fault Refusal :=
  acceptedAt .node fun s => match s.responseMatch r with
    | some (i, t) => s.becomeReturning i t (.node r.status r.detail r.data)
    | none => s.takeStray r

/-- An IN_FLIGHT entry's response deadline expires (R15). No other entry has one. -/
def State.expireResponse (i : EntryIndex) (s : State) : State :=
  match s.entryState i with
  | .inFlight t _ => State.setStatus .responseTimeout (s.becomeReturning i t (.refusal .noResponse))
  | .free => s
  | .held _ _ => s
  | .queued _ => s
  | .returning _ _ => s

/-- RESPONSE_DEADLINE_EXPIRY (R15). -/
def execResponseDeadlineExpiry (i : EntryIndex) : State → Host.Outcome State Fault Refusal :=
  taken (State.expireResponse i)

/-- The transmitted entry becomes IN_FLIGHT, its deadline set from its own response timeout (R10). -/
def State.launch (i : EntryIndex) (s : State) : State :=
  match s.entryState i with
  | .queued t => s.setEntryState i (.inFlight t (s.now + millis t.responseTimeout))
  | .free => s
  | .held _ _ => s
  | .inFlight _ _ => s
  | .returning _ _ => s

/-- The N-port completes the transmission of the head of its queue (R10, R177). -/
def State.completeNode (s : State) : State :=
  match s.nPort.busy, s.nPort.queue with
  | true, i :: rest => State.launch i { s with nPort := { s.nPort with queue := rest, busy := false } }
  | true, [] => s
  | false, _ => s

/-- NODE_TRANSMIT_COMPLETE (R10). -/
def execNodeTransmitComplete : State → Host.Outcome State Fault Refusal := taken State.completeNode

/-- How many frames a reply travels in (R186). -/
def Reply.parts (r : Reply) : Nat := if r.payload.length ≤ Config.payloadRun then 1
  else (r.payload.length + Config.payloadRun - 1) / Config.payloadRun

/-- The reply of an executed RESET_PART (R147, R148). Log 17. -/
def Reply.isResetDone (r : Reply) : Bool :=
  decide (r.code = CommandName.resetPart.code ∧ r.result = .done)

/-- The S-port transmitter's state is replaced. -/
def State.setSending (x : Option Sending) (s : State) : State := { s with sPort := { s.sPort with sending := x } }

/-- A reply's part has been sent: its next part follows at once, or the reply leaves its queue (R174, R186),
and the awaited management reset is performed after the RESET_PART reply (R148). -/
def State.completeReply (part : Nat) (s : State) : State :=
  match s.sPort.replies with
  | [] => s.setSending none
  | r :: rest =>
    if part + 1 < r.parts then s.setSending (some (.reply (part + 1)))
    else
      let s := { s with sPort := { s.sPort with replies := rest, sending := none } }
      if s.session.resetAwaited && r.isResetDone then s.managementReset else s

/-- A RETURNING entry's answer has been sent: it leaves the Return queue and becomes FREE (R17, R174). It is not counted as
discarded, also when the S-port then leaves UP: where the first row of R176 and its closing sentence disagree, the model
follows the row. Log 23. -/
def State.completeAnswer (s : State) : State :=
  match s.sPort.returns with
  | [] => s.setSending none
  | i :: rest => State.setEntryState i .free { s with sPort := { s.sPort with returns := rest, sending := none } }

/-- The S-port completes a transmission: the frame leaves its queue and the queue's owner acts (R174). -/
def State.completeStation (s : State) : State :=
  match s.sPort.sending with
  | none => s
  | some (.reply part) => s.completeReply part
  | some .notice => { s with sPort := { s.sPort with slot := none, sending := none } }
  | some .answer => s.completeAnswer
  | some .refusal => { s with sPort := { s.sPort with refusals := s.sPort.refusals.tail, sending := none } }

/-- S_PORT_TRANSMIT_COMPLETE (R174). -/
def execSPortTransmitComplete : State → Host.Outcome State Fault Refusal := taken State.completeStation

end Sys2Proof.Machine
end

