-- ==== Sys2Proof/Machine/Frames.lean ====
section
/-! DEFINITION. The bytes of frames: the check sequence, the reception checks, the frames the part sends, and what the
two transmitters put on their lines (R10, R12, R170, R183 to R188). -/
namespace Sys2Proof.Machine

/-! ### The check sequence -/

/-- One bit of the CRC-16 with polynomial 0x1021 (R183). -/
def crcBit (crc : Half) : Half := if crc.msb then (crc <<< 1) ^^^ 0x1021 else crc <<< 1

/-- One byte of the CRC-16, most significant bit first (R183). -/
def crcByte (crc : Half) (b : Byte) : Half :=
  crcBit (crcBit (crcBit (crcBit (crcBit (crcBit (crcBit (crcBit (crc ^^^ (b.setWidth 16 <<< 8)))))))))

/-- The check sequence of a run of bytes: initial value 0xFFFF, no final inversion (R183). -/
def crc16 (bytes : List Byte) : Half := bytes.foldl crcByte 0xFFFF

/-! ### Frames sent -/

/-- The bytes of a frame between its delimiters, its check sequence computed afresh (R183). -/
def frameBytes (kind destination source tag : Byte) (body : List Byte) : List Byte :=
  let covered := [kind, destination, source, tag] ++ bigEndian 1 body.length ++ body
  covered ++ bigEndian 2 (crc16 covered).toNat

/-- The body of a REQUEST (R184). -/
def requestBytes (q : Request) : List Byte :=
  [operationCode (requestOperation q.body)] ++ bigEndian 2 q.register.toNat
    ++ bigEndian 1 (requestDataLength q.body) ++ requestData q.body

/-- The REQUEST frame sent downstream for an entry: as the station sent it (R10). -/
def requestFrame (q : Request) : List Byte := frameBytes 0x01 q.node q.station q.tag (requestBytes q)

/-- A refusal made by the part: a RESPONSE from the own address with status REFUSED, the cause and no data (R5, R9). -/
def refusalFrame (own station tag : Byte) (c : RefusalCause) : List Byte :=
  frameBytes 0x02 station own tag [statusCode .refused, c.code]

/-- The RESPONSE frame sent upstream for an entry's answer (R9, R12). -/
def answerFrame (own : Byte) (t : Txn) : Answer → List Byte
  | .refusal c => refusalFrame own t.request.station t.request.tag c
  | .node status detail data =>
    frameBytes 0x02 t.request.station t.request.node t.request.tag (statusCode status :: detail :: data)

/-- The part byte: the part index, and the highest bit on the last part (R186). -/
def partByte (r : Reply) (part : Nat) : Byte :=
  BitVec.ofNat 8 (part % 4) + (if part + 1 < r.parts then 0 else 0x80)

/-- The frame of one part of a reply (R186). -/
def replyFrame (own : Byte) (r : Reply) (part : Nat) : List Byte :=
  frameBytes 0x04 r.destination own r.tag
    ([r.code] ++ bigEndian 2 r.sequence.toNat ++ [r.result.code, partByte r part]
      ++ (r.payload.drop (part * Config.payloadRun)).take Config.payloadRun)

/-- The NOTICE frame; its tag is the notice number (R118, R188). -/
def noticeFrame (own : Byte) (n : Notice) : List Byte :=
  frameBytes 0x05 n.destination own n.number
    ([n.number] ++ bigEndian 2 n.events.toNat ++ bigEndian 1 n.holds ++ bigEndian 2 n.fill
      ++ [n.mode.code, n.commit.code])

/-! ### The lines -/

/-- What a transmitter puts on its line. -/
inductive LineOutput where
  /-- No signal: the part is held in reset (R21). -/
  | silent
  /-- Valid idle symbols: no frame to send (R168). -/
  | idle
  /-- A frame's bytes between its delimiters. -/
  | frame (bytes : List Byte)
  deriving DecidableEq, Repr

/-- The answer frame of an entry, when it is RETURNING. -/
def State.entryAnswerFrame (s : State) (i : EntryIndex) : Option (List Byte) :=
  match s.entryState i with
  | .returning t a => some (answerFrame s.control.ownAddress t a)
  | .free => none
  | .held _ _ => none
  | .queued _ => none
  | .inFlight _ _ => none

/-- The frame under transmission at the S-port (R172, R173). -/
def State.stationFrame (s : State) : Option (List Byte) :=
  match s.sPort.sending with
  | none => none
  | some (.reply part) => s.sPort.replies.head?.map fun r => replyFrame s.control.ownAddress r part
  | some .notice => s.sPort.slot.map (noticeFrame s.control.ownAddress)
  | some .answer => s.sPort.returns.head?.bind s.entryAnswerFrame
  | some .refusal => s.sPort.refusals.head?.map fun r => refusalFrame s.control.ownAddress r.station r.tag r.cause

/-- The frame under transmission at the N-port (R10, R177). -/
def State.nodeFrame (s : State) : Option (List Byte) :=
  if s.nPort.busy then
    s.nPort.queue.head?.bind fun i => (s.entryState i).txn?.map fun t => requestFrame t.request
  else none

/-- A line's output: silent in reset, the frame under transmission, or idle symbols (R21, R168). -/
def State.lineOutput (s : State) (frame : Option (List Byte)) : LineOutput :=
  if s.heldInReset then .silent else match frame with
    | some bytes => .frame bytes
    | none => .idle

/-- What the S-port sends (R168). -/
def State.sLine (s : State) : LineOutput := s.lineOutput s.stationFrame

/-- What the N-port sends (R168). -/
def State.nLine (s : State) : LineOutput := s.lineOutput s.nodeFrame

/-! ### Reception -/

/-- The header and body of a frame whose length agrees with its header (R170 check 1, R183). -/
structure RawFrame where
  kind : Byte
  destination : Byte
  source : Byte
  tag : Byte
  body : List Byte
  deriving DecidableEq, Repr

/-- Split a complete frame; none when it is shorter than 7 bytes or its body length is not the header's. -/
def splitFrame (bytes : List Byte) : Option RawFrame :=
  match bytes with
  | kind :: destination :: source :: tag :: length :: rest =>
    if rest.length = length.toNat + 2 then some ⟨kind, destination, source, tag, rest.take length.toNat⟩ else none
  | _ => none

/-- What a frame's body carries, when kind and length allow it. -/
inductive FrameBody where
  | request (register : Half) (body : RequestBody)
  | response (status : NodeStatus) (detail : Byte) (data : List Byte)
  | command (code : Byte) (sequence : Half) (args : List Byte)
  /-- A REPLY or a NOTICE. -/
  | other
  deriving DecidableEq, Repr

/-- A node status code (R184). -/
def readStatus (b : Byte) : Option NodeStatus :=
  if b = 0 then some .ok else if b = 1 then some .nodeError else if b = 2 then some .refused else none

/-- A REQUEST body whose fields agree with its length (R184). -/
def readRequest (body : List Byte) : Option FrameBody :=
  match body with
  | operation :: high :: low :: n :: data =>
    let register : Half := BitVec.ofNat 16 (high.toNat * 256 + low.toNat)
    if operation = 1 then
      if data.length = 0 ∧ 1 ≤ n.toNat ∧ n.toNat ≤ 64 then some (.request register (.read n)) else none
    else if operation = 2 then
      if data.length = n.toNat ∧ 1 ≤ n.toNat ∧ n.toNat ≤ 64 then some (.request register (.write data)) else none
    else if operation = 3 then
      if data.length = n.toNat ∧ n.toNat ≤ 16 ∧ high = 0 then some (.request register (.exec data)) else none
    else none
  | _ => none

/-- A RESPONSE body (R184). -/
def readResponse (body : List Byte) : Option FrameBody :=
  match body with
  | status :: detail :: data =>
    if data.length ≤ 64 then (readStatus status).map fun st => .response st detail data else none
  | _ => none

/-- A COMMAND body (R185). -/
def readCommand (body : List Byte) : Option FrameBody :=
  match body with
  | code :: high :: low :: args =>
    if args.length ≤ 69 then some (.command code (BitVec.ofNat 16 (high.toNat * 256 + low.toNat)) args) else none
  | _ => none

/-- The body by the kind byte (R170 check 1, R183 to R188). -/
def readBody (f : RawFrame) : Option FrameBody :=
  if f.kind = 1 then readRequest f.body
  else if f.kind = 2 then readResponse f.body
  else if f.kind = 3 then readCommand f.body
  else if f.kind = 4 then (if 5 ≤ f.body.length ∧ f.body.length ≤ 72 then some .other else none)
  else if f.kind = 5 then (if f.body.length = 8 then some .other else none)
  else none

/-- Check 2: the CRC-16 over header and body equals the two bytes received, high byte first (R170). -/
def sequenceHolds (bytes : List Byte) : Bool :=
  decide (bytes.drop (bytes.length - 2) = bigEndian 2 (crc16 (bytes.take (bytes.length - 2))).toNat)

/-- A valid link address: 1 to 62 (00_scope, R183). Log 9. -/
def linkAddress (a : Byte) : Bool := decide (1 ≤ a.toNat ∧ a.toNat ≤ 62)

/-- A frame that passed the reception checks of its port. -/
inductive Accepted where
  | request (q : Request)
  | response (r : Response)
  | command (code : Byte) (h : CommandHeader) (args : List Byte)
  deriving DecidableEq, Repr

/-- Check 4: what the port accepts (R170). -/
def acceptedKind (p : PortName) (own : Byte) (f : RawFrame) : FrameBody → Option Accepted
  | .request register body => match p with
    | .station => some (.request ⟨f.source, f.destination, f.tag, register, body⟩)
    | .node => none
  | .response status detail data => match p with
    | .station => none
    | .node => some (.response ⟨f.destination, f.source, f.tag, status, detail, data⟩)
  | .command code sequence args => match p with
    | .station => if f.destination = own then some (.command code ⟨f.source, f.tag, sequence⟩ args) else none
    | .node => none
  | .other => none

/-- The four reception checks in order; the first that fails decides (R170). -/
def checkFrame (p : PortName) (own : Byte) (bytes : List Byte) : Except FrameCheck Accepted :=
  match splitFrame bytes with
  | none => .error .length
  | some f => match readBody f with
    | none => .error .length
    | some body =>
      if !sequenceHolds bytes then .error .checkSequence
      else if !(linkAddress f.destination && linkAddress f.source) then .error .addresses
      else match acceptedKind p own f body with
        | none => .error .kindForPort
        | some a => .ok a

end Sys2Proof.Machine
end

