-- ==== Sys2Proof/Machine/HoldCommands.lean ====
section
/-! DEFINITION. The meanings of LIST_HOLDS, RELEASE and DENY. -/
namespace Sys2Proof.Machine

/-- The time remaining to a hold deadline, in whole ms rounded up, at least 1 (R52). Log 15. -/
def State.remaining (s : State) (hold : Hold) : Nat := max 1 ((hold.deadline - s.now + 999) / 1000)

/-- The bank generation of a table used; a HELD entry's is always ACTIVE (R47). -/
def TableId.generation : TableId → Half
  | .active g => g
  | .fallback => 0

/-- The 24 bytes of a held entry in the reply to LIST_HOLDS (R52, R189). -/
def State.holdItem (s : State) (r : HoldRef) (t : Txn) (hold : Hold) : List Byte :=
  [BitVec.ofNat 8 r.index.val, r.generation, t.request.station, t.request.node, t.request.tag,
   operationCode (requestOperation t.request.body)]
    ++ bigEndian 2 t.request.register.toNat ++ bigEndian 1 (requestDataLength t.request.body)
    ++ padded 8 (requestData t.request.body)
    ++ bigEndian 2 (hold.limit - s.remaining hold) ++ bigEndian 2 (s.remaining hold)
    ++ bigEndian 1 (t.ruleSlot.getD 0) ++ bigEndian 2 t.tableUsed.generation.toNat

/-- The item of a hold reference. -/
def State.heldItem? (s : State) (r : HoldRef) : Option (List Byte) :=
  match s.entryState r.index with
  | .held t hold => some (s.holdItem r t hold)
  | .free => none
  | .queued _ => none
  | .inFlight _ _ => none
  | .returning _ _ => none

/-- The items of a reply to LIST_HOLDS: positions first to first + count − 1, as many as exist (R51). -/
def State.heldItems (s : State) (first count : Nat) : List (List Byte) :=
  ((s.holdQueue.drop first).take count).filterMap s.heldItem?

/-- LIST_HOLDS, its fields checked in order (R51, R52). -/
def listHoldsBody (args : List Byte) (s : State) : Answered :=
  let first := field args 0 1
  let count := field args 1 1
  if 15 < first then s.badField 1
  else if count = 0 ∨ 8 < count then s.badField 2
  else
    let items := s.heldItems first count
    s.answer .done (bigEndian 1 s.holdQueue.length ++ bigEndian 1 first ++ bigEndian 1 items.length ++ items.flatten)

/-- LIST_HOLDS (R51, R52). -/
def execListHolds (h : CommandHeader) (args : List Byte) : State → Host.Outcome State Fault Refusal :=
  command .listHolds h args (listHoldsBody args)

/-- The hold reference RELEASE and DENY carry; an index above 31 names no entry (R53). -/
def readHoldRef (args : List Byte) : Option HoldRef :=
  if hs : field args 0 1 < Config.entries then some ⟨⟨field args 0 1, hs⟩, byteAt args 1⟩ else none

/-- A hold reference in a reply. -/
def holdRefBytes (r : HoldRef) : List Byte := [BitVec.ofNat 8 r.index.val, r.generation]

/-- The held request a reference names, by the generation test (R53). -/
def State.heldBy (s : State) (r : HoldRef) : Option Txn :=
  match s.entryState r.index with
  | .held t _ => if s.generation r.index = r.generation then some t else none
  | .free => none
  | .queued _ => none
  | .inFlight _ _ => none
  | .returning _ _ => none

/-- NOT_HELD: the reference as sent, the entry's current state and generation (R53). -/
def State.notHeld (s : State) (r : HoldRef) : Answered :=
  s.answer .notHeld (holdRefBytes r ++ [(s.entryState r.index).code, s.generation r.index])

/-- A held request is released (R54). -/
def State.releaseHold (i : EntryIndex) (t : Txn) (s : State) : State :=
  State.forward i t (s.removeHold i (holdRecord .released t none false))

/-- A held request is denied (R55). -/
def State.denyHold (i : EntryIndex) (t : Txn) (s : State) : State :=
  State.becomeReturning i t (.refusal .holdDenied) (s.removeHold i (holdRecord .denied t (some .holdDenied) false))

/-- The field check and the generation test that RELEASE and DENY share (R53). -/
def onHeld (args : List Byte) (resolve : HoldRef → Txn → State → Answered) (s : State) : Answered :=
  match readHoldRef args with
  | none => s.badField 1
  | some r => match s.heldBy r with
    | none => s.notHeld r
    | some t => resolve r t s

/-- RELEASE of a held request: the reply carries the reference and the state reached (R54). -/
def releaseBody (r : HoldRef) (t : Txn) (s : State) : Answered :=
  let after := s.releaseHold r.index t
  after.answer .done (holdRefBytes r ++ [(after.entryState r.index).code])

/-- RELEASE (R53, R54). -/
def execRelease (h : CommandHeader) (args : List Byte) : State → Host.Outcome State Fault Refusal :=
  command .release h args (onHeld args releaseBody)

/-- DENY of a held request (R55). -/
def denyBody (r : HoldRef) (t : Txn) (s : State) : Answered :=
  (s.denyHold r.index t).answer .done (holdRefBytes r)

/-- DENY (R53, R55). -/
def execDeny (h : CommandHeader) (args : List Byte) : State → Host.Outcome State Fault Refusal :=
  command .deny h args (onHeld args denyBody)

end Sys2Proof.Machine
end

