-- ==== Sys2Proof/Machine/Links.lean ====
section
/-! DEFINITION. The meanings of the resets and of the line interface's reports other than a non-idle symbol. -/
namespace Sys2Proof.Machine

/-- RST_N_ASSERTED: the part is held in reset, with both transmitters silent (R21). -/
def execRstNAsserted (s : State) : Host.Outcome State Fault Refusal :=
  .next { s with
    heldInReset := true
    sPort := { s.sPort with sending := none }
    nPort := { s.nPort with busy := false } }

/-- POWER_ON_RESET: every block takes its power-on values and the straps are sampled (R21, R153, R154). -/
def execPowerOnReset (straps : BitVec 6) (start : StartStrap) (s : State) : Host.Outcome State Fault Refusal :=
  .next (State.powerOn straps start s.choices s.pending)

/-- A port's link state changes, which sets LINK_CHANGE (R169). -/
def State.changeLink (p : PortName) (l : Link) (s : State) : State := State.setStatus .linkChange (s.setLink p l)

/-- Signal is detected: a DOWN port becomes SYNCING (R168). -/
def State.detectSignal (p : PortName) (s : State) : State :=
  match s.link p with
  | .down => s.changeLink p (.syncing 0)
  | .syncing _ => s
  | .up _ => s

/-- SIGNAL_DETECTED (R168). -/
def execSignalDetected (p : PortName) : State → Host.Outcome State Fault Refusal := taken (State.detectSignal p)

/-- A frame under reception is cut: discarded unchecked, counted malformed, its stamp let go (R170). -/
def State.cutFrame (p : PortName) (s : State) : State := State.endReception p (s.bump (.malformed p))

/-- A valid idle symbol: it counts towards UP, or cuts a frame under reception (R168, R170). -/
def State.takeIdle (p : PortName) (s : State) : State :=
  match s.link p with
  | .down => s
  | .syncing run =>
    if run + 1 < Config.idleRunForUp then s.setLink p (.syncing (run + 1)) else s.changeLink p (.up none)
  | .up none => s
  | .up (some _) => s.cutFrame p

/-- VALID_IDLE_SYMBOL (R168). -/
def execValidIdleSymbol (p : PortName) : State → Host.Outcome State Fault Refusal := taken (State.takeIdle p)

/-- How many entries are RETURNING. -/
def State.returningCount (s : State) : Nat := entryIndices.countP fun i => (s.entryState i).isReturning

/-- An entry is freed if it is RETURNING; its generation is kept (R18). -/
def Entry.freeIfReturning (e : Entry) : Entry := if e.state.isReturning then ⟨e.generation, .free⟩ else e

/-- Every RETURNING entry becomes FREE (R18). -/
def freeReturning (table : Vector Entry Config.entries) : Vector Entry Config.entries :=
  ⟨⟨table.toList.map Entry.freeIfReturning⟩, by simp⟩

/-- The S-port leaves UP: R175 items 1 to 5, before LINK_CHANGE. -/
def State.dropStation (s : State) : State :=
  State.bumpBy s.sPort.refusals.length .refusalsDropped (State.bumpBy s.returningCount .answersDiscarded
    { s with
      sPort := ⟨.down, [], none, [], [], none⟩
      table := freeReturning s.table })

/-- The S-port leaves UP (R175); an awaited management reset is performed at the end of the step (R148). -/
def State.stationLeavesUp (s : State) : State :=
  let s := s.dropStation.setStatus .linkChange
  if s.session.resetAwaited then s.managementReset else s

/-- The N-port leaves UP (R16, R178). -/
def State.nodeLeavesUp (s : State) : State :=
  let lost := s.nPort.queue ++ s.inFlightEntries
  let s := { s with nPort := ⟨.down, [], false⟩ }
  State.setStatus .linkChange (lost.foldl State.answerLinkDown s)

/-- A port leaves UP. -/
def State.leaveUp (p : PortName) (s : State) : State :=
  match p with
  | .station => s.stationLeavesUp
  | .node => s.nodeLeavesUp

/-- Loss of signal or of symbol lock: the port goes DOWN (R168). -/
def State.loseSignal (p : PortName) (s : State) : State :=
  match s.link p with
  | .down => s
  | .syncing _ => s.changeLink p .down
  | .up _ => s.leaveUp p

/-- LOSS_OF_SIGNAL (R168, R175, R178). -/
def execLossOfSignal (p : PortName) : State → Host.Outcome State Fault Refusal := taken (State.loseSignal p)

end Sys2Proof.Machine
end

