-- ==== Sys2Proof/Machine/LogCommands.lean ====
section
/-! DEFINITION. The meanings of READ_LOG, SET_LOG and READ_COUNTERS. -/
namespace Sys2Proof.Machine

/-- The oldest n records leave the log and the lost count becomes 0 (R106). -/
def State.drainLog (n : Nat) (s : State) : State :=
  { s with log := { s.log with records := s.log.records.drop n, lostCount := 0 } }

/-- The payload of READ_LOG: how many records, the fill that remains, the lost count, the records (R106, R190). -/
def State.drainPayload (s : State) (n : Nat) : List Byte :=
  let drained := s.log.records.take n
  bigEndian 1 drained.length ++ bigEndian 2 (s.log.records.drop n).length ++ bigEndian 4 s.log.lostCount.toNat
    ++ drained.flatMap recordBytes

/-- READ_LOG, its field checked (R106). -/
def readLogBody (args : List Byte) (s : State) : Answered :=
  let n := field args 0 1
  if n = 0 ∨ 6 < n then s.badField 1 else (s.drainLog n).answer .done (s.drainPayload n)

/-- READ_LOG (R106). -/
def execReadLog (h : CommandHeader) (args : List Byte) : State → Host.Outcome State Fault Refusal :=
  command .readLog h args (readLogBody args)

/-- The four settings, the fill and the lost count (R105). -/
def State.logPayload (s : State) : List Byte :=
  [s.log.mode.code] ++ bigEndian 2 s.log.threshold ++ [boolCode s.log.refusalLogging, boolCode s.log.strayLogging]
    ++ bigEndian 2 s.log.records.length ++ bigEndian 4 s.log.lostCount.toNat

/-- SET_LOG, its fields checked in order (R105). -/
def setLogBody (args : List Byte) (s : State) : Answered :=
  match firstFailing
      [(readLogMode (byteAt args 0)).isNone,
       decide (field args 1 2 = 0 ∨ 256 < field args 1 2),
       (readFlag (byteAt args 3)).isNone,
       (readFlag (byteAt args 4)).isNone] with
  | some place => s.badField place
  | none =>
    let after := { s with log := { s.log with
      mode := (readLogMode (byteAt args 0)).getD .wrap
      threshold := field args 1 2
      refusalLogging := (readFlag (byteAt args 3)).getD false
      strayLogging := (readFlag (byteAt args 4)).getD false } }
    State.answer after .done (State.logPayload after)

/-- SET_LOG (R105). -/
def execSetLog (h : CommandHeader) (args : List Byte) : State → Host.Outcome State Fault Refusal :=
  command .setLog h args (setLogBody args)

/-- The 13 counters of a group, in the order of R179. -/
def State.groupCounts (s : State) : CounterGroup → List Count
  | .traffic => s.counters.counts.toList.take 13
  | .outcomes => s.counters.counts.toList.drop 13

/-- The counters with one group at 0 (R180 step 2). -/
def clearGroup (g : CounterGroup) (cs : Vector Count Config.counters) : Vector Count Config.counters :=
  match g with
  | .traffic => ⟨⟨List.replicate 13 0 ++ cs.toList.drop 13⟩, by simp [Config.counters]⟩
  | .outcomes => ⟨⟨cs.toList.take 13 ++ List.replicate 13 0⟩, by simp [Config.counters]⟩

/-- The other group (R180 step 3). -/
def CounterGroup.other : CounterGroup → CounterGroup
  | .traffic => .outcomes
  | .outcomes => .traffic

/-- The counters after READ_COUNTERS (R180 steps 2 and 3). -/
def CounterSet.afterRead (c : CounterSet) (clear : Bool) : CounterSet where
  counts := if clear then clearGroup c.nextGroup c.counts else c.counts
  nextGroup := c.nextGroup.other

/-- READ_COUNTERS, its field checked (R180). -/
def readCountersBody (args : List Byte) (s : State) : Answered :=
  match readFlag (byteAt args 0) with
  | none => s.badField 1
  | some clear =>
    State.answer { s with counters := s.counters.afterRead clear } .done
      ([s.counters.nextGroup.code] ++ (s.groupCounts s.counters.nextGroup).flatMap fun c => bigEndian 4 c.toNat)

/-- READ_COUNTERS (R180). -/
def execReadCounters (h : CommandHeader) (args : List Byte) : State → Host.Outcome State Fault Refusal :=
  command .readCounters h args (readCountersBody args)

end Sys2Proof.Machine
end

