-- ==== Sys2Proof/Machine/SessionCommands.lean ====
section
/-! DEFINITION. The meanings of PROBE, OPEN, CLOSE, KEEPALIVE, RESET_PART and of an unknown command code. -/
namespace Sys2Proof.Machine

/-- The session state as a code byte (R187). -/
def sessionStateByte (o : Option OpenSession) : Byte := boolCode o.isSome

/-- The payload of a PROBE reply (R131, R187, R191). -/
def State.probePayload (s : State) : List Byte :=
  bigEndian 2 Config.vendorCode ++ bigEndian 2 Config.partCode ++ bigEndian 1 Config.revision
    ++ [s.control.ownAddress, boolCode s.control.strapFault, startCode s.control.start, s.control.mode.code,
        sessionStateByte s.session.current]
    ++ s.ownerPayload

/-- PROBE (R131). -/
def execProbe (h : CommandHeader) (args : List Byte) : State → Host.Outcome State Fault Refusal :=
  sessionless .probe h args fun s => s.turnAway CommandName.probe.code h .done s.probePayload

/-- The payload of an OPENED reply (R132). -/
def State.openedPayload (s : State) : List Byte :=
  bigEndian 2 s.session.number.toNat ++ [s.control.mode.code, s.commit.state.code]

/-- A session is opened for the station that sent OPEN, and answered OPENED (R132). -/
def State.openFor (h : CommandHeader) (s : State) : State :=
  let s := s.startSession h.source
  s.turnAway CommandName.openSession.code h .opened s.openedPayload

/-- The liveness timer is WARNED. -/
def LivenessState.isWarned : LivenessState → Bool
  | .disarmed => false
  | .running _ => false
  | .warned _ => true

/-- OPEN by the state of the session: opened, opened afresh by its owner, taken over, or SESSION_BUSY
(R132, R133, R134). -/
def State.takeOpen (h : CommandHeader) (s : State) : State :=
  match s.session.current with
  | none => s.openFor h
  | some o =>
    if h.source = o.owner ∨ s.control.liveness.isWarned then s.withdrawNotice.openFor h
    else s.turnAway CommandName.openSession.code h .sessionBusy s.ownerPayload

/-- OPEN (R132 to R134). -/
def execOpen (h : CommandHeader) (args : List Byte) : State → Host.Outcome State Fault Refusal :=
  sessionless .openSession h args (State.takeOpen h)

/-- A new CLOSE ends the session; its reply is queued and not cached (R137, R142). -/
def State.closeFor (h : CommandHeader) (s : State) : State :=
  s.endSession.turnAway CommandName.closeSession.code h .done []

/-- CLOSE (R142). -/
def execClose (h : CommandHeader) (args : List Byte) : State → Host.Outcome State Fault Refusal :=
  agent (sessionChecked CommandName.closeSession.code h fun o s =>
    if args.length = CommandName.closeSession.argBytes then s.closeFor h
    else answerNew CommandName.closeSession.code h o (s.badField 0))

/-- KEEPALIVE (R144). -/
def execKeepalive (h : CommandHeader) (args : List Byte) : State → Host.Outcome State Fault Refusal :=
  command .keepalive h args fun s => s.answer .done []

/-- RESET_PART is executed: a management reset is awaited (R147). -/
def State.awaitReset (s : State) : State := { s with session := { s.session with resetAwaited := true } }

/-- RESET_PART (R147). -/
def execResetPart (h : CommandHeader) (args : List Byte) : State → Host.Outcome State Fault Refusal :=
  command .resetPart h args fun s => s.awaitReset.answer .done []

/-- A command whose code names none of the catalogue (R140). -/
def execUnknownCommand (code : Byte) (h : CommandHeader) (_args : List Byte) :
    State → Host.Outcome State Fault Refusal :=
  agent (sessionChecked code h fun o s => answerNew code h o (s.answer .badCommand []))

end Sys2Proof.Machine
end

