-- ==== Sys2Proof/Machine/EventCommands.lean ====
section
/-! DEFINITION. The meanings of the Event Unit's commands and of GET_STATUS. -/
namespace Sys2Proof.Machine

/-- An event set in a reply (R188). -/
def eventSetBytes (e : EventSet) : List Byte := bigEndian 2 e.toNat

/-- The fallback record in a reply: count, last cause, epoch number at entry (R161, R187). -/
def fallbackRecordBytes (f : FallbackRecord) : List Byte :=
  bigEndian 2 f.count ++ optionalItem 1 (f.lastCause.map fun c => c.modeCause.code.toNat)
    ++ optionalItem 4 (f.epochAtEntry.map (·.toNat))

/-- The payload of GET_STATUS, group by group in the order of R116 (log 13). -/
def State.statusPayload (s : State) : List Byte :=
  eventSetBytes s.events.status ++ eventSetBytes s.events.enable ++ eventSetBytes s.events.line
    ++ [boolCode s.alert]
    ++ [s.notice.state.code, s.notice.number] ++ bigEndian 1 s.notice.interval
    ++ [sessionStateByte s.session.current] ++ s.ownerPayload
    ++ [s.control.liveness.code] ++ bigEndian 1 s.control.period
    ++ [s.control.mode.code] ++ fallbackRecordBytes s.control.fallbackRecord
    ++ bigEndian 2 s.commit.generation.toNat ++ [s.commit.state.code]
    ++ bigEndian 1 s.holdQueue.length ++ bigEndian 2 s.log.records.length
    ++ [s.resetCause.cause.code] ++ bigEndian 1 s.resetCause.discarded

/-- GET_STATUS (R116). -/
def execGetStatus (h : CommandHeader) (args : List Byte) : State → Host.Outcome State Fault Refusal :=
  command .getStatus h args fun s => s.answer .done s.statusPayload

/-- The sticky statuses a set names are cleared; HOLD_WAITING is passed over (R114). -/
def State.clearSticky (e : EventSet) (s : State) : State :=
  { s with events := { s.events with
      status := s.events.status &&& (~~~e ||| EventKind.holdWaiting.mask) } }

/-- CLEAR_EVENTS, its field checked (R114). -/
def clearEventsBody (args : List Byte) (s : State) : Answered :=
  match readEventSet (field args 0 2) with
  | none => s.badField 1
  | some e => (s.clearSticky e).answer .done (eventSetBytes (s.clearSticky e).events.status)

/-- CLEAR_EVENTS (R114). -/
def execClearEvents (h : CommandHeader) (args : List Byte) : State → Host.Outcome State Fault Refusal :=
  command .clearEvents h args (clearEventsBody args)

/-- Enables and routes are written; the two fixed kinds stay enabled and on LINE (R111, R113). -/
def State.writeEvents (enabled line : EventSet) (s : State) : State :=
  State.evalNotice { s with events := { s.events with
    enable := enabled ||| fixedEvents
    line := line ||| fixedEvents } }

/-- SET_EVENTS, its fields checked in order (R113). -/
def setEventsBody (args : List Byte) (s : State) : Answered :=
  match readEventSet (field args 0 2), readEventSet (field args 2 2) with
  | none, _ => s.badField 1
  | some _, none => s.badField 2
  | some e, some l =>
    (s.writeEvents e l).answer .done (eventSetBytes (e ||| fixedEvents) ++ eventSetBytes (l ||| fixedEvents))

/-- SET_EVENTS (R113). -/
def execSetEvents (h : CommandHeader) (args : List Byte) : State → Host.Outcome State Fault Refusal :=
  command .setEvents h args (setEventsBody args)

/-- The sender is AWAITING_ACK with this notice number (R121). -/
def State.noticeOutstanding (s : State) (number : Byte) : Bool :=
  match s.notice.state with
  | .idle => false
  | .awaitingAck _ => decide (s.notice.number = number)

/-- A matching acknowledgement: the sender becomes IDLE, a waiting NOTICE is removed, one under transmission is let
finish, and the condition is evaluated (R121). -/
def State.acknowledge (s : State) : State :=
  State.evalNotice { s with
    notice := { s.notice with state := .idle }
    sPort := { s.sPort with slot := if s.sPort.sending = some .notice then s.sPort.slot else none } }

/-- The sender's state and current number after ACK_NOTICE (R121). -/
def State.noticePayload (s : State) : List Byte := [s.notice.state.code, s.notice.number]

/-- ACK_NOTICE, judged against the sender (R121). -/
def ackNoticeBody (args : List Byte) (s : State) : Answered :=
  if s.noticeOutstanding (byteAt args 0) then s.acknowledge.answer .done s.acknowledge.noticePayload
  else s.answer .staleNotice s.noticePayload

/-- ACK_NOTICE (R121). -/
def execAckNotice (h : CommandHeader) (args : List Byte) : State → Host.Outcome State Fault Refusal :=
  command .ackNotice h args (ackNoticeBody args)

/-- SET_NOTICE_RETRY, its field checked; a running retry timer is not moved (R124). -/
def setNoticeRetryBody (args : List Byte) (s : State) : Answered :=
  if field args 0 1 < 2 then s.badField 1
  else State.answer { s with notice := { s.notice with interval := field args 0 1 } } .done
    (bigEndian 1 (field args 0 1))

/-- SET_NOTICE_RETRY (R124). -/
def execSetNoticeRetry (h : CommandHeader) (args : List Byte) : State → Host.Outcome State Fault Refusal :=
  command .setNoticeRetry h args (setNoticeRetryBody args)

end Sys2Proof.Machine
end

