-- ==== Sys2Proof/Machine/ModeCommands.lean ====
section
/-! DEFINITION. The meanings of SET_LIVENESS, ENTER_FALLBACK and RESUME. -/
namespace Sys2Proof.Machine

/-- SET_LIVENESS, its field checked; the reload that follows uses the new period (R155). Log 14. -/
def setLivenessBody (args : List Byte) (s : State) : Answered :=
  if field args 0 1 = 0 then s.badField 1
  else State.answer { s with control := { s.control with period := field args 0 1 } } .done
    (bigEndian 1 (field args 0 1) ++ [s.control.liveness.code])

/-- SET_LIVENESS (R155). -/
def execSetLiveness (h : CommandHeader) (args : List Byte) : State → Host.Outcome State Fault Refusal :=
  command .setLiveness h args (setLivenessBody args)

/-- ENTER_FALLBACK: fallback entry with cause COMMAND, or IN_FALLBACK (R161). -/
def enterFallbackBody (s : State) : Answered :=
  match s.control.mode with
  | .fallback => s.answer .inFallback []
  | .governed =>
    let after := s.enterFallback .command
    after.answer .done (fallbackRecordBytes after.control.fallbackRecord ++ bigEndian 1 s.holdQueue.length
      ++ [boolCode (decide (s.commit.state = .pending))])

/-- ENTER_FALLBACK (R161). -/
def execEnterFallback (h : CommandHeader) (args : List Byte) : State → Host.Outcome State Fault Refusal :=
  command .enterFallback h args enterFallbackBody

/-- RESUME: the return to GOVERNED, or NOT_IN_FALLBACK (R164). -/
def resumeBody (s : State) : Answered :=
  match s.control.mode with
  | .governed => s.answer .notInFallback []
  | .fallback =>
    let after := s.resumeGoverned
    after.answer .done ([after.control.mode.code] ++ bigEndian 2 after.commit.generation.toNat
      ++ [after.commit.state.code])

/-- RESUME (R164). -/
def execResume (h : CommandHeader) (args : List Byte) : State → Host.Outcome State Fault Refusal :=
  command .resume h args resumeBody

end Sys2Proof.Machine
end

