-- ==== Sys2Proof/Machine/TimeCommands.lean ====
section
/-! DEFINITION. The meanings of READ_METERS, GET_TIME, ALIGN_EPOCH and SET_SYNC. -/
namespace Sys2Proof.Machine

/-- The meters first to first + count − 1, as many as exist (R77). -/
def metersNamed (first count : Nat) : List (Fin Config.meters) :=
  (List.finRange Config.meters).filter fun m => decide (first ≤ m.val ∧ m.val < first + count)

/-- One meter in the reply to READ_METERS (R77). -/
def State.meterItem (s : State) (m : Fin Config.meters) : List Byte :=
  [BitVec.ofNat 8 m.val] ++ bigEndian 2 (s.meterSetting m).budget.toNat ++ [(s.meterSetting m).exceed.code]
    ++ bigEndian 2 s.meters[m].consumed.toNat ++ bigEndian 4 s.meters[m].exceed.toNat

/-- The exceed count of a meter becomes 0 (R77). -/
def State.clearExceed (s : State) (m : Fin Config.meters) : State := s.setMeter m { s.meters[m] with exceed := 0 }

/-- READ_METERS, its fields checked in order (R77). -/
def readMetersBody (args : List Byte) (s : State) : Answered :=
  let first := field args 0 1
  let count := field args 1 1
  if 15 < first then s.badField 1
  else if count = 0 ∨ 6 < count then s.badField 2
  else match readFlag (byteAt args 2) with
    | none => s.badField 3
    | some clear =>
      let ms := metersNamed first count
      let payload := bigEndian 2 s.commit.generation.toNat ++ bigEndian 4 s.epoch.number.toNat
        ++ bigEndian 3 s.epoch.offset ++ ms.flatMap s.meterItem
      if clear then (ms.foldl State.clearExceed s).answer .done payload else s.answer .done payload

/-- READ_METERS (R77). -/
def execReadMeters (h : CommandHeader) (args : List Byte) : State → Host.Outcome State Fault Refusal :=
  command .readMeters h args (readMetersBody args)

/-- The last sync capture in a reply: an optional item of an epoch number and an offset (R72, R187). -/
def captureBytes : Option Stamp → List Byte
  | none => 0 :: List.replicate 7 0
  | some c => 1 :: bigEndian 4 c.epoch.toNat ++ bigEndian 3 c.offset

/-- The payload of GET_TIME (R72). -/
def State.timePayload (s : State) : List Byte :=
  bigEndian 4 s.epoch.number.toNat ++ bigEndian 3 s.epoch.offset ++ bigEndian 3 s.epochLength
    ++ [s.epoch.sync.code] ++ captureBytes s.epoch.capture

/-- GET_TIME (R72). -/
def execGetTime (h : CommandHeader) (args : List Byte) : State → Host.Outcome State Fault Refusal :=
  command .getTime h args fun s => s.answer .done s.timePayload

/-- ALIGN_EPOCH: the offset is moved without a boundary (R69). -/
def alignEpochBody (args : List Byte) (s : State) : Answered :=
  if s.epochLength ≤ field args 0 3 then s.badField 1
  else State.answer { s with epoch := { s.epoch with offset := field args 0 3 } } .done
    (bigEndian 4 s.epoch.number.toNat ++ bigEndian 3 (field args 0 3))

/-- ALIGN_EPOCH (R69). -/
def execAlignEpoch (h : CommandHeader) (args : List Byte) : State → Host.Outcome State Fault Refusal :=
  command .alignEpoch h args (alignEpochBody args)

/-- SET_SYNC, its field checked (R70). -/
def setSyncBody (args : List Byte) (s : State) : Answered :=
  match readSyncMode (byteAt args 0) with
  | none => s.badField 1
  | some m => State.answer { s with epoch := { s.epoch with sync := m } } .done [m.code]

/-- SET_SYNC (R70). -/
def execSetSync (h : CommandHeader) (args : List Byte) : State → Host.Outcome State Fault Refusal :=
  command .setSync h args (setSyncBody args)

end Sys2Proof.Machine
end

