-- ==== Sys2Proof/Machine/Symbols.lean ====
section
/-! DEFINITION. The meaning of a non-idle symbol: a frame is received symbol by symbol and handed on at its end. -/
namespace Sys2Proof.Machine

/-- A COMMAND frame is handed to the meaning its code names (R140, R171, R185). -/
def execCommandFrame (code : Byte) (h : CommandHeader) (args : List Byte) :
    State → Host.Outcome State Fault Refusal :=
  match CommandName.ofCode code with
  | none => execUnknownCommand code h args
  | some .probe => execProbe h args
  | some .openSession => execOpen h args
  | some .closeSession => execClose h args
  | some .keepalive => execKeepalive h args
  | some .resetPart => execResetPart h args
  | some .getStatus => execGetStatus h args
  | some .clearEvents => execClearEvents h args
  | some .setEvents => execSetEvents h args
  | some .ackNotice => execAckNotice h args
  | some .setNoticeRetry => execSetNoticeRetry h args
  | some .setLiveness => execSetLiveness h args
  | some .enterFallback => execEnterFallback h args
  | some .resume => execResume h args
  | some .writeRule => execWriteRule h args
  | some .eraseRule => execEraseRule h args
  | some .clearShadow => execClearShadow h args
  | some .copyActiveToShadow => execCopyActiveToShadow h args
  | some .writeBankParams => execWriteBankParams h args
  | some .readRule => execReadRule h args
  | some .readBankParams => execReadBankParams h args
  | some .writeFallbackRule => execWriteFallbackRule h args
  | some .eraseFallbackRule => execEraseFallbackRule h args
  | some .writeFallbackParams => execWriteFallbackParams h args
  | some .readFallback => execReadFallback h args
  | some .commit => execCommit h args
  | some .abortCommit => execAbortCommit h args
  | some .listHolds => execListHolds h args
  | some .release => execRelease h args
  | some .deny => execDeny h args
  | some .readMeters => execReadMeters h args
  | some .getTime => execGetTime h args
  | some .alignEpoch => execAlignEpoch h args
  | some .setSync => execSetSync h args
  | some .readLog => execReadLog h args
  | some .setLog => execSetLog h args
  | some .readCounters => execReadCounters h args

/-- A complete frame is checked, and discarded or handed on with its arrival stamp (R170, R171). -/
def execFrame (p : PortName) (stamp : Stamp) (bytes : List Byte) (s : State) : Host.Outcome State Fault Refusal :=
  match checkFrame p s.control.ownAddress bytes with
  | .error failed => execFrameRejected p failed s
  | .ok (.request q) => execRequestArrival q stamp s
  | .ok (.response r) => execResponseArrival r s
  | .ok (.command code h args) => execCommandFrame code h args s

/-- A frame begins: its arrival stamp is taken (R68, R170). -/
def State.beginFrame (p : PortName) (s : State) : State :=
  s.setLink p (.up (some ⟨⟨s.epoch.number, s.epoch.offset⟩, []⟩))

/-- A byte joins the frame under reception; one beyond the 79th cuts it (R170). -/
def State.receiveByte (p : PortName) (r : Reception) (b : Byte) (s : State) : State :=
  if r.bytes.length < Config.frameBytes then s.setLink p (.up (some { r with bytes := r.bytes ++ [b] }))
  else s.cutFrame p

/-- A symbol while a frame is under reception; its end is taken by execOtherSymbol (R170). -/
def State.symbolInFrame (p : PortName) (r : Reception) (symbol : LineSymbol) (s : State) : State :=
  match symbol with
  | .startDelimiter => (s.cutFrame p).beginFrame p
  | .byte b => s.receiveByte p r b
  | .endDelimiter => s
  | .invalid => s.cutFrame p

/-- A symbol while no frame is under reception: all but a start delimiter are ignored (R170). -/
def State.symbolOutsideFrame (p : PortName) (symbol : LineSymbol) (s : State) : State :=
  match symbol with
  | .startDelimiter => s.beginFrame p
  | .byte _ => s
  | .endDelimiter => s
  | .invalid => s

/-- A symbol other than a valid idle symbol (R168, R170). -/
def State.takeSymbol (p : PortName) (symbol : LineSymbol) (s : State) : State :=
  match s.link p with
  | .down => s
  | .syncing _ => s.setLink p (.syncing 0)
  | .up none => s.symbolOutsideFrame p symbol
  | .up (some r) => s.symbolInFrame p r symbol

/-- OTHER_SYMBOL: an end delimiter under reception completes the frame, which is taken at that moment (R168, R170,
R171). -/
def execOtherSymbol (p : PortName) (symbol : LineSymbol) (s : State) : Host.Outcome State Fault Refusal :=
  match s.link p, symbol with
  | .up (some r), .endDelimiter => execFrame p r.stamp r.bytes s
  | _, _ => taken (State.takeSymbol p symbol) s

end Sys2Proof.Machine
end

