-- ==== Sys2Proof/Machine/Timers.lean ====
section
/-! DEFINITION. The meanings of the hold deadline, the epoch boundary, SYNC_IN, the liveness timer and the notice retry. -/
namespace Sys2Proof.Machine

/-- A HELD entry's hold deadline expires: R57 steps 1 to 3. No other entry has one. -/
def State.expireHold (i : EntryIndex) (s : State) : State :=
  match s.entryState i with
  | .held t h =>
    State.applyDefault i t h.default (State.setStatus .holdExpired
      (s.removeHold i (holdRecord .holdExpired t (defaultCause h.default) false)))
  | .free => s
  | .queued _ => s
  | .inFlight _ _ => s
  | .returning _ _ => s

/-- HOLD_DEADLINE_EXPIRY (R57). -/
def execHoldDeadlineExpiry (i : EntryIndex) : State → Host.Outcome State Fault Refusal := taken (State.expireHold i)

/-- EPOCH_BOUNDARY: the offset reaches the epoch length in force (R66). -/
def execEpochBoundary : State → Host.Outcome State Fault Refusal := taken State.takeBoundary

/-- The last sync capture is set to the present epoch number and offset (R71). -/
def State.captureSync (s : State) : State :=
  { s with epoch := { s.epoch with capture := some ⟨s.epoch.number, s.epoch.offset⟩ } }

/-- A SYNC_IN edge, by the sync mode (R71). -/
def State.syncEdge (s : State) : State :=
  match s.epoch.sync with
  | .off => s
  | .capture => s.captureSync
  | .restart => s.captureSync.takeBoundary

/-- SYNC_IN_EDGE: a low-to-high transition acts by the sync mode, a high-to-low one has no effect (R71). -/
def execSyncInEdge (transition : SyncTransition) : State → Host.Outcome State Fault Refusal :=
  taken fun s => match transition with
    | .lowToHigh => s.syncEdge
    | .highToLow => s

/-- The first expiry: R157 steps 1 to 3. -/
def State.warnLiveness (s : State) : State :=
  State.setStatus .livenessWarning
    { s with control := { s.control with liveness := .warned s.livenessDeadline } }

/-- The second expiry: the session is lost, and mode GOVERNED gives way to FALLBACK (R158). -/
def State.loseSession (s : State) : State :=
  let s := s.endSession
  match s.control.mode with
  | .governed => s.enterFallback .liveness
  | .fallback => s

/-- The liveness timer expires (R157, R158). -/
def State.expireLiveness (s : State) : State :=
  match s.control.liveness with
  | .disarmed => s
  | .running _ => s.warnLiveness
  | .warned _ => s.loseSession

/-- LIVENESS_EXPIRY (R157, R158). -/
def execLivenessExpiry : State → Host.Outcome State Fault Refusal := taken State.expireLiveness

/-- The notice is sent again to a station, and the retry timer restarts (R120). -/
def State.resendNotice (owner : Byte) (s : State) : State :=
  { s with
    sPort := { s.sPort with slot := s.placeNotice owner s.notice.number }
    notice := { s.notice with state := .awaitingAck s.retryDeadline } }

/-- The retry timer expires while AWAITING_ACK (R120). It does not run otherwise. -/
def State.expireRetry (s : State) : State :=
  match s.notice.state, s.session.current with
  | .awaitingAck _, some o => s.resendNotice o.owner
  | .awaitingAck _, none => s
  | .idle, _ => s

/-- NOTICE_RETRY_EXPIRY (R120). -/
def execNoticeRetryExpiry : State → Host.Outcome State Fault Refusal := taken State.expireRetry

end Sys2Proof.Machine
end

