-- ==== Sys2Proof/Machine/Dispatch.lean ====
section
/-! DEFINITION. One arm for each command: a direct call of its meaning. -/
namespace Sys2Proof.Machine

def exec (i : Instr) (s : State) : Host.Outcome State Fault Refusal :=
  match i with
  | .rstNAsserted => Sys2Proof.Machine.execRstNAsserted s
  | .powerOnReset straps start => Sys2Proof.Machine.execPowerOnReset straps start s
  | .signalDetected p => Sys2Proof.Machine.execSignalDetected p s
  | .validIdleSymbol p => Sys2Proof.Machine.execValidIdleSymbol p s
  | .otherSymbol p symbol => Sys2Proof.Machine.execOtherSymbol p symbol s
  | .lossOfSignal p => Sys2Proof.Machine.execLossOfSignal p s
  | .frameRejected p failed => Sys2Proof.Machine.execFrameRejected p failed s
  | .requestArrival request stamp => Sys2Proof.Machine.execRequestArrival request stamp s
  | .responseArrival response => Sys2Proof.Machine.execResponseArrival response s
  | .responseDeadlineExpiry entry => Sys2Proof.Machine.execResponseDeadlineExpiry entry s
  | .nodeTransmitComplete => Sys2Proof.Machine.execNodeTransmitComplete s
  | .sPortTransmitComplete => Sys2Proof.Machine.execSPortTransmitComplete s
  | .holdDeadlineExpiry entry => Sys2Proof.Machine.execHoldDeadlineExpiry entry s
  | .epochBoundary => Sys2Proof.Machine.execEpochBoundary s
  | .syncInEdge transition => Sys2Proof.Machine.execSyncInEdge transition s
  | .livenessExpiry => Sys2Proof.Machine.execLivenessExpiry s
  | .noticeRetryExpiry => Sys2Proof.Machine.execNoticeRetryExpiry s
  | .probe h args => Sys2Proof.Machine.execProbe h args s
  | .openSession h args => Sys2Proof.Machine.execOpen h args s
  | .closeSession h args => Sys2Proof.Machine.execClose h args s
  | .keepalive h args => Sys2Proof.Machine.execKeepalive h args s
  | .resetPart h args => Sys2Proof.Machine.execResetPart h args s
  | .unknownCommand code h args => Sys2Proof.Machine.execUnknownCommand code h args s
  | .getStatus h args => Sys2Proof.Machine.execGetStatus h args s
  | .clearEvents h args => Sys2Proof.Machine.execClearEvents h args s
  | .setEvents h args => Sys2Proof.Machine.execSetEvents h args s
  | .ackNotice h args => Sys2Proof.Machine.execAckNotice h args s
  | .setNoticeRetry h args => Sys2Proof.Machine.execSetNoticeRetry h args s
  | .setLiveness h args => Sys2Proof.Machine.execSetLiveness h args s
  | .enterFallback h args => Sys2Proof.Machine.execEnterFallback h args s
  | .resume h args => Sys2Proof.Machine.execResume h args s
  | .writeRule h args => Sys2Proof.Machine.execWriteRule h args s
  | .eraseRule h args => Sys2Proof.Machine.execEraseRule h args s
  | .clearShadow h args => Sys2Proof.Machine.execClearShadow h args s
  | .copyActiveToShadow h args => Sys2Proof.Machine.execCopyActiveToShadow h args s
  | .writeBankParams h args => Sys2Proof.Machine.execWriteBankParams h args s
  | .readRule h args => Sys2Proof.Machine.execReadRule h args s
  | .readBankParams h args => Sys2Proof.Machine.execReadBankParams h args s
  | .writeFallbackRule h args => Sys2Proof.Machine.execWriteFallbackRule h args s
  | .eraseFallbackRule h args => Sys2Proof.Machine.execEraseFallbackRule h args s
  | .writeFallbackParams h args => Sys2Proof.Machine.execWriteFallbackParams h args s
  | .readFallback h args => Sys2Proof.Machine.execReadFallback h args s
  | .commit h args => Sys2Proof.Machine.execCommit h args s
  | .abortCommit h args => Sys2Proof.Machine.execAbortCommit h args s
  | .listHolds h args => Sys2Proof.Machine.execListHolds h args s
  | .release h args => Sys2Proof.Machine.execRelease h args s
  | .deny h args => Sys2Proof.Machine.execDeny h args s
  | .readMeters h args => Sys2Proof.Machine.execReadMeters h args s
  | .getTime h args => Sys2Proof.Machine.execGetTime h args s
  | .alignEpoch h args => Sys2Proof.Machine.execAlignEpoch h args s
  | .setSync h args => Sys2Proof.Machine.execSetSync h args s
  | .readLog h args => Sys2Proof.Machine.execReadLog h args s
  | .setLog h args => Sys2Proof.Machine.execSetLog h args s
  | .readCounters h args => Sys2Proof.Machine.execReadCounters h args s

end Sys2Proof.Machine
end

