-- ==== Sys2Proof/Machine/Idle.lean ====
section
/-! DEFINITION. What an idle part does: its clock runs, and its deadlines expire (chapter 4, log 1 to log 4). -/
namespace Sys2Proof.Machine

/-- The deadline expiry of an entry that is due now, if any (R15, R57). -/
def State.dueEntry (s : State) (i : EntryIndex) : Option Instr :=
  match s.entryState i with
  | .held _ h => if h.deadline ≤ s.now then some (.holdDeadlineExpiry i) else none
  | .inFlight _ deadline => if deadline ≤ s.now then some (.responseDeadlineExpiry i) else none
  | .free => none
  | .queued _ => none
  | .returning _ _ => none

/-- The liveness expiry, when due now (R155, R157). -/
def State.dueLiveness (s : State) : List Instr :=
  match s.control.liveness with
  | .disarmed => []
  | .running deadline => if deadline ≤ s.now then [.livenessExpiry] else []
  | .warned deadline => if deadline ≤ s.now then [.livenessExpiry] else []

/-- The retry expiry, when due now (R117, R120). -/
def State.dueRetry (s : State) : List Instr :=
  match s.notice.state with
  | .idle => []
  | .awaitingAck deadline => if deadline ≤ s.now then [.noticeRetryExpiry] else []

/-- Every expiry due now; none is while the part is held in reset (R21). -/
def State.dueExpiries (s : State) : List Instr :=
  if s.heldInReset then [] else entryIndices.filterMap s.dueEntry ++ s.dueLiveness ++ s.dueRetry

/-- Of several expiries due at one time a free choice is taken first (log 2). -/
def chooseExpiry (choice : Nat) : List Instr → Option Instr
  | [] => none
  | [c] => some c
  | c :: rest => some ((c :: rest).getD (Config.expiryChoice choice % (c :: rest).length) c)

/-- One microsecond of running time: the offset advances, or a boundary is taken instead (R64, R66). -/
def State.tick (s : State) : State :=
  let s := { s with now := s.now + 1 }
  if s.epoch.offset + 1 < s.epochLength then { s with epoch := { s.epoch with offset := s.epoch.offset + 1 } }
  else s.takeBoundary

/-- Time passes. It does not while the part is held in reset (R21). -/
def execTick (s : State) : Host.Outcome State Fault Refusal := taken State.tick s

end Sys2Proof.Machine
end

