-- ==== Sys2Proof/Machine/Step.lean ====
section
/-! DEFINITION. One step: the front command is taken; with none waiting, an expiry that is due is taken, or a
microsecond passes (log 1). -/
namespace Sys2Proof.Machine

/-- A step with an empty queue. -/
def idleStep (s : State) : Host.Outcome State Fault Refusal :=
  match chooseExpiry s.choices s.dueExpiries with
  | some c => exec c { s with choices := s.choices + 1 }
  | none => execTick s

/-- A step: the command at the front of the queue, on the state with the queue's rest. -/
def step (s : State) : Host.Outcome State Fault Refusal :=
  match s.pending with
  | c :: rest => exec c { s with pending := rest }
  | [] => idleStep s

/-- No row of the table gives bits, so no word spells a command: the state is unchanged where the decoder refuses. -/
def State.withFetchWord (s : State) (nbits w : Nat) : State :=
  match decodeTableWord nbits w with
  | some c => { s with pending := c :: s.pending }
  | none => s

end Sys2Proof.Machine
end

