-- ==== Sys2Proof/Safety.lean ====
section
/-! DEFINITION. The vocabulary of the statements: which parts of the state a command leaves alone, what the shared
outcomes are, and the laws of the device. -/
namespace Sys2Proof.Machine

/-! ### Frames -/

/-- A part of the state, as a frame statement names it. -/
inductive Part where
  | heldInReset
  | now
  | epoch
  | entry (i : EntryIndex)
  | resetCause
  | active
  | shadow
  | fallback
  | commit
  | holdQueue
  | meter (m : Fin Config.meters)
  | log
  | status (k : EventKind)
  | eventSettings
  | noticeSender
  | session
  | sessionNumber
  | resetAwaited
  | mode
  | liveness
  | period
  | fallbackRecord
  | straps
  | link (p : PortName)
  | replies
  | slot
  | returns
  | refusals
  | nodeQueue
  | stationTransmission
  | nodeTransmission
  | counter (c : Counter)
  | nextGroup
  | choices
  | pending
  deriving DecidableEq, Repr

/-- A part is the same in two states. A transmission under way goes on; an idle transmitter may have started (R173). -/
def Part.Kept (s t : State) : Part → Prop
  | .heldInReset => t.heldInReset = s.heldInReset
  | .now => t.now = s.now
  | .epoch => t.epoch = s.epoch
  | .entry i => t.table[i] = s.table[i]
  | .resetCause => t.resetCause = s.resetCause
  | .active => t.active = s.active
  | .shadow => t.shadow = s.shadow
  | .fallback => t.fallback = s.fallback
  | .commit => t.commit = s.commit
  | .holdQueue => t.holdQueue = s.holdQueue
  | .meter m => t.meters[m] = s.meters[m]
  | .log => t.log = s.log
  | .status k => t.events.isSet k = s.events.isSet k
  | .eventSettings => t.events.enable = s.events.enable ∧ t.events.line = s.events.line
  | .noticeSender => t.notice = s.notice
  | .session => t.session.current = s.session.current
  | .sessionNumber => t.session.number = s.session.number
  | .resetAwaited => t.session.resetAwaited = s.session.resetAwaited
  | .mode => t.control.mode = s.control.mode
  | .liveness => t.control.liveness = s.control.liveness
  | .period => t.control.period = s.control.period
  | .fallbackRecord => t.control.fallbackRecord = s.control.fallbackRecord
  | .straps => t.control.ownAddress = s.control.ownAddress ∧ t.control.strapFault = s.control.strapFault
      ∧ t.control.start = s.control.start
  | .link p => t.link p = s.link p
  | .replies => t.sPort.replies = s.sPort.replies
  | .slot => t.sPort.slot = s.sPort.slot
  | .returns => t.sPort.returns = s.sPort.returns
  | .refusals => t.sPort.refusals = s.sPort.refusals
  | .nodeQueue => t.nPort.queue = s.nPort.queue
  | .stationTransmission => s.sPort.sending = none ∨ t.sPort.sending = s.sPort.sending
  | .nodeTransmission => s.nPort.busy = true → t.nPort.busy = true
  | .counter c => t.count c = s.count c
  | .nextGroup => t.counters.nextGroup = s.counters.nextGroup
  | .choices => t.choices = s.choices
  | .pending => t.pending = s.pending

/-- Every part but those listed is the same in two states. -/
def SameBut (changed : List Part) (s t : State) : Prop := ∀ p, p ∉ changed → p.Kept s t

/-- The notice sender and its slot: what a notice made at the setting of a status changes (R112, R117, R118). -/
def noticeParts : List Part := [.noticeSender, .slot]

/-- What setting one status changes. -/
def statusParts (k : EventKind) : List Part := .status k :: noticeParts

/-- What a record taken by the Capture Log changes (R99, R102, R103). -/
def recordParts : List Part :=
  [.log, .status .logThreshold, .status .logLoss, .counter .logRecordsLost] ++ noticeParts

/-- What a list of records taken by the log changes. -/
def loggingParts (bodies : List RecordBody) : List Part := if bodies.isEmpty then [] else recordParts

/-! ### The Capture Log -/

/-- The log after it has taken a record (R99 to R102). -/
def logAfter (e : EpochTimer) (l : CaptureLog) (b : RecordBody) : CaptureLog :=
  if l.records.length < 256 then
    { l with nextSequence := l.nextSequence + 1, records := l.records ++ [⟨l.nextSequence, e.number, e.offset, b⟩] }
  else match l.mode with
    | .wrap => { l with
        nextSequence := l.nextSequence + 1
        records := l.records.tail ++ [⟨l.nextSequence, e.number, e.offset, b⟩]
        lostCount := l.lostCount + 1 }
    | .stop => { l with nextSequence := l.nextSequence + 1, lostCount := l.lostCount + 1 }

/-- The log after it has taken several records, one after another (R99). -/
def logAfterAll (e : EpochTimer) (l : CaptureLog) (bodies : List RecordBody) : CaptureLog := bodies.foldl (logAfter e) l

/-! ### Shared outcomes of the data path -/

/-- A frame has been accepted at a port: it is counted and no longer under reception (R68, R170). -/
def FrameTaken (p : PortName) (s t : State) : Prop :=
  t.link p = .up none ∧ t.count (.framesAccepted p) = s.count (.framesAccepted p) + 1

/-- What an accepted frame always changes. -/
def frameParts (p : PortName) : List Part := [.link p, .counter (.framesAccepted p)]

/-- An entry has been given its answer: it waits in the Return queue while the S-port is UP, and is freed and counted as
discarded otherwise; a refusal is counted by its cause (R9). -/
structure GivenAnswer (i : EntryIndex) (g : Byte) (x : Txn) (a : Answer) (s t : State) : Prop where
  entry : t.table[i] = ⟨g, if s.sPort.link.isUp then .returning x a else .free⟩
  returns : t.sPort.returns = if s.sPort.link.isUp then s.sPort.returns ++ [i] else s.sPort.returns
  discarded : t.count .answersDiscarded
    = if s.sPort.link.isUp then s.count .answersDiscarded else s.count .answersDiscarded + 1
  counted : ∀ c, a = .refusal c → t.count (.refusals c) = s.count (.refusals c) + 1

/-- What giving an entry its answer changes, apart from the completion record. -/
def answerParts (i : EntryIndex) (a : Answer) : List Part :=
  [.entry i, .returns, .counter .answersDiscarded] ++ (match a with
    | .node _ _ _ => []
    | .refusal c => [.counter (.refusals c)])

/-- An entry has taken the forward step: QUEUED at the tail of the node transmit queue while the N-port is UP, answered
LINK_DOWN otherwise (R8). -/
structure Forwarded (i : EntryIndex) (g : Byte) (x : Txn) (s t : State) : Prop where
  up : s.nPort.link.isUp = true → t.table[i] = ⟨g, .queued x⟩ ∧ t.nPort.queue = s.nPort.queue ++ [i]
  notUp : s.nPort.link.isUp = false → GivenAnswer i g x (.refusal .linkDown) s t

/-- What the forward step changes, apart from the completion record. -/
def forwardParts (i : EntryIndex) (s : State) : List Part :=
  if s.nPort.link.isUp then [.entry i, .nodeQueue] else answerParts i (.refusal .linkDown)

/-- The records of a forward step: LINK_DOWN_ANSWER at level PAIR while the N-port is not UP (R8, R20). -/
def forwardRecords (x : Txn) (s : State) : List RecordBody :=
  if !s.nPort.link.isUp && decide (x.logLevel = .pair) then
    [txnRecord .linkDownAnswer x (some (.refusal .linkDown)) []] else []

/-- The DECISION record, present at level DECISION or PAIR (R31). -/
def decisionRecords (x : Txn) (outcome : LoggedDecision) (mark : Option MeterMark) (cause : Option RefusalCause) :
    List RecordBody :=
  if x.logLevel = .none then [] else [decisionRecord x outcome mark cause]

/-! ### Admission -/

/-- A frame can reach a port: the part is not held in reset, and the port is UP (R21, R168). -/
structure FrameReaches (p : PortName) (s : State) : Prop where
  running : s.heldInReset = false
  linkUp : (s.link p).isUp = true

/-- An entry that is not FREE holds the request's station and tag (R4). -/
def TagHeld (q : Request) (s : State) : Prop :=
  ∃ i x, (s.entryState i).txn? = some x ∧ x.request.station = q.station ∧ x.request.tag = q.tag

/-- The cause of the first admission test a request fails (R4). -/
def RefusedFor (q : Request) (s : State) : RefusalCause → Prop
  | .badTarget => q.node = s.control.ownAddress
  | .tagInUse => q.node ≠ s.control.ownAddress ∧ TagHeld q s
  | .tableFull => q.node ≠ s.control.ownAddress ∧ ¬ TagHeld q s ∧ ∀ i, s.entryState i ≠ .free
  | .rule => False
  | .meter => False
  | .holdFull => False
  | .holdDenied => False
  | .holdExpired => False
  | .noResponse => False
  | .linkDown => False

/-- A request reaches the table, passes the admission tests and is given the lowest-numbered FREE entry (R4, R6). -/
structure Admitted (q : Request) (i : EntryIndex) (s : State) : Prop where
  reaches : FrameReaches .station s
  notOwn : q.node ≠ s.control.ownAddress
  tagFree : ¬ TagHeld q s
  free : s.entryState i = .free
  lowest : ∀ j < i, s.entryState j ≠ .free

/-- What every admitted request changes. -/
def admissionParts : List Part := .counter .requestsAdmitted :: frameParts .station

/-- The ADMISSION_REFUSED record, present when its setting is on (R5, R98, R104). -/
def admissionRecords (q : Request) (c : RefusalCause) (s : State) : List RecordBody :=
  if s.log.refusalLogging then
    [⟨.admissionRefused, some ⟨q.station, q.node, q.tag⟩, some ⟨requestOperation q.body, q.register⟩,
      if s.control.mode = .governed then .active s.commit.generation else .fallback, none, none, none, false,
      some (.refusal c), (requestData q.body).take 8⟩]
  else []

/-- What a miss decides, by the table's miss action and the operation (R29). -/
def MissDecision (miss : MissAction) (q : Request) : RuleAction :=
  match miss, q.body with
  | .pass, _ => .pass
  | .refuse, _ => .refuse
  | .passReads, .read _ => .pass
  | .passReads, .write _ => .refuse
  | .passReads, .exec _ => .refuse

/-- The record of an entry answered LINK_DOWN, present at level PAIR (R20). -/
def linkDownRecords (s : State) (i : EntryIndex) : List RecordBody :=
  match (s.entryState i).txn? with
  | some x => if x.logLevel = .pair then [txnRecord .linkDownAnswer x (some (.refusal .linkDown)) []] else []
  | none => []

/-- The body lengths and fields each kind of frame allows (R170 check 1, R184 to R188). -/
def BodyAllowed (kind : Byte) (body : List Byte) : Prop :=
  (kind = 0x01 ∧ ∃ operation high low n data, body = operation :: high :: low :: n :: data
    ∧ ((operation = 0x01 ∧ data = [] ∧ 1 ≤ n.toNat ∧ n.toNat ≤ 64)
      ∨ (operation = 0x02 ∧ data.length = n.toNat ∧ 1 ≤ n.toNat ∧ n.toNat ≤ 64)
      ∨ (operation = 0x03 ∧ data.length = n.toNat ∧ n.toNat ≤ 16 ∧ high = 0)))
  ∨ (kind = 0x02 ∧ ∃ status detail data, body = status :: detail :: data
    ∧ status.toNat ≤ 2 ∧ data.length ≤ 64)
  ∨ (kind = 0x03 ∧ 3 ≤ body.length ∧ body.length ≤ 72)
  ∨ (kind = 0x04 ∧ 5 ≤ body.length ∧ body.length ≤ 72)
  ∨ (kind = 0x05 ∧ body.length = 8)

/-! ### Commands of the session -/

/-- A COMMAND frame reaches the Agent, which has room for a reply and awaits no reset (R129, R147). -/
structure CommandReaches (s : State) : Prop where
  reaches : FrameReaches .station s
  notAwaited : s.session.resetAwaited = false
  room : s.sPort.replies.length < 4

/-- A new command of the session reaches the Agent (R136, R137). -/
structure NewCommand (h : CommandHeader) (o : OpenSession) (s : State) : Prop where
  reaches : CommandReaches s
  opened : s.session.current = some o
  fromOwner : h.source = o.owner
  expected : h.sequence = o.expected

/-- What every new command does whatever its result (R130, R137), with the parts its own effect may change. -/
structure Answers (code : Byte) (h : CommandHeader) (o : OpenSession) (result : ResultCode) (payload : List Byte)
    (changed : List Part) (s t : State) : Prop where
  frame : FrameTaken .station s t
  reply : t.sPort.replies = s.sPort.replies ++ [⟨h.source, h.tag, code, h.sequence, result, payload⟩]
  cached : t.session.current = some { o with
    expected := if o.expected = 0xFFFF then 1 else o.expected + 1
    last := some ⟨h.sequence, ⟨h.source, h.tag, code, h.sequence, result, payload⟩⟩ }
  reloaded : t.control.liveness = .running (s.now + 100000 * t.control.period)
  rest : SameBut (frameParts .station ++ [.replies, .session, .liveness] ++ changed) s t

/-- A command is answered, and nothing else happens (R136, R139). -/
structure OnlyAnswers (code : Byte) (h : CommandHeader) (result : ResultCode) (payload : List Byte) (s t : State) :
    Prop where
  frame : FrameTaken .station s t
  reply : t.sPort.replies = s.sPort.replies ++ [⟨h.source, h.tag, code, h.sequence, result, payload⟩]
  rest : SameBut (frameParts .station ++ [.replies]) s t

/-- The owner in a reply: a presence byte and the address (R187). -/
def ownerItem (o : Option OpenSession) : List Byte :=
  match o with
  | none => [0, 0]
  | some o => [1, o.owner]

/-- A 16-bit value in two bytes, high byte first. -/
def bytesOf16 (x : Half) : List Byte := [x.extractLsb' 8 8, x.extractLsb' 0 8]

/-- The items of an entry held in the reply to LIST_HOLDS (R52, R189; at least 1 ms remains, log 15). -/
def heldItem (s : State) (r : HoldRef) : List Byte :=
  match s.entryState r.index with
  | .held x hold =>
    let remaining := max 1 ((hold.deadline - s.now + 999) / 1000)
    [BitVec.ofNat 8 r.index.val, r.generation, x.request.station, x.request.node, x.request.tag,
      operationCode (requestOperation x.request.body)]
      ++ bytesOf16 x.request.register
      ++ (match x.request.body with
          | .read wanted => wanted :: List.replicate 8 0
          | .write data => BitVec.ofNat 8 data.length :: (data ++ List.replicate 8 0).take 8
          | .exec data => BitVec.ofNat 8 data.length :: (data ++ List.replicate 8 0).take 8)
      ++ bigEndian 2 (hold.limit - remaining) ++ bigEndian 2 remaining
      ++ [BitVec.ofNat 8 (x.ruleSlot.getD 0)] ++ bytesOf16 x.tableUsed.generation
  | .free => []
  | .queued _ => []
  | .inFlight _ _ => []
  | .returning _ _ => []

/-- One meter in the reply to READ_METERS (R77). -/
def meterReport (s : State) (m : Fin Config.meters) : List Byte :=
  [BitVec.ofNat 8 m.val] ++ bytesOf16 s.active.params.meters[m].budget ++ [s.active.params.meters[m].exceed.code]
    ++ bytesOf16 s.meters[m].consumed ++ bigEndian 4 s.meters[m].exceed.toNat

/-- The fallback record in a reply (R161, R187, R190). -/
def fallbackRecordReport (f : FallbackRecord) : List Byte :=
  bigEndian 2 f.count
    ++ (match f.lastCause with
        | none => [0, 0]
        | some .liveness => [1, 0x20]
        | some .command => [1, 0x21])
    ++ (match f.epochAtEntry with
        | none => [0, 0, 0, 0, 0]
        | some n => 1 :: bigEndian 4 n.toNat)

/-- The kind byte of a log record (R190). -/
def kindByte : RecordKind → Byte
  | .decision => 1
  | .released => 2
  | .denied => 3
  | .holdExpired => 4
  | .completed => 5
  | .timedOut => 7
  | .linkDownAnswer => 8
  | .admissionRefused => 9
  | .stray => 10
  | .modeChange => 11
  | .commitApplied => 12

/-- The cause byte of a log record: absent, a refusal cause of R184, a node status, or a mode change (R190). -/
def causeByte : Option RecordCause → Byte
  | none => 0x00
  | some (.refusal .badTarget) => 0x01
  | some (.refusal .tagInUse) => 0x02
  | some (.refusal .tableFull) => 0x03
  | some (.refusal .rule) => 0x04
  | some (.refusal .meter) => 0x05
  | some (.refusal .holdFull) => 0x06
  | some (.refusal .holdDenied) => 0x07
  | some (.refusal .holdExpired) => 0x08
  | some (.refusal .noResponse) => 0x09
  | some (.refusal .linkDown) => 0x0A
  | some (.nodeStatus .ok) => 0x10
  | some (.nodeStatus .nodeError) => 0x11
  | some (.nodeStatus .refused) => 0x12
  | some (.modeChange .liveness) => 0x20
  | some (.modeChange .command) => 0x21
  | some (.modeChange .resume) => 0x22

/-- Bits 0 to 5 of the flags byte of a log record (R190). -/
def flagBits (b : RecordBody) : List Bool :=
  [b.parties.isSome, b.access.isSome, b.ruleSlot.isSome, b.meter.isSome,
   match b.meter with
     | none => false
     | some m => m.exceeded,
   b.byFallback]

/-- The 35 bytes of a log record are, in the order of R190: sequence number (4 bytes), epoch number (4), offset (3), kind,
flags, station, node, tag, operation, register address (2), table, bank generation (2), decision, rule slot, meter, cause,
snippet length, snippet (8). The bytes of an absent field are 0, and so are the snippet bytes beyond its length. -/
def RecordLaidOut (r : LogRecord) (bytes : List Byte) : Prop :=
  ∃ flags : Byte, (∀ k < 8, flags.getLsbD k = (flagBits r.body).getD k false)
    ∧ bytes = bigEndian 4 r.sequence.toNat ++ bigEndian 4 r.epoch.toNat ++ bigEndian 3 r.offset
      ++ [kindByte r.body.kind, flags]
      ++ (match r.body.parties with
          | none => [0, 0, 0]
          | some p => [p.station, p.node, p.tag] : List Byte)
      ++ (match r.body.access with
          | none => [0, 0, 0]
          | some ⟨.read, register⟩ => 1 :: bytesOf16 register
          | some ⟨.write, register⟩ => 2 :: bytesOf16 register
          | some ⟨.exec, register⟩ => 3 :: bytesOf16 register : List Byte)
      ++ (match r.body.table with
          | .active generation => 0 :: bytesOf16 generation
          | .fallback => [1, 0, 0] : List Byte)
      ++ [(match r.body.decision with
          | none => 0
          | some .pass => 1
          | some .refuse => 2
          | some .hold => 3 : Byte)]
      ++ [(match r.body.ruleSlot with
          | none => 0
          | some slot => BitVec.ofNat 8 slot : Byte)]
      ++ [(match r.body.meter with
          | none => 0
          | some m => BitVec.ofNat 8 m.meter.val : Byte)]
      ++ [causeByte r.body.cause, BitVec.ofNat 8 r.body.snippet.length]
      ++ (r.body.snippet ++ List.replicate 8 0).take 8

/-- The thirteen counters of a group, in the order of the table of R179. -/
def groupCounters : CounterGroup → List Counter
  | .traffic =>
    [.framesAccepted .station, .checkFailures .station, .malformed .station, .wrongKind .station,
     .framesAccepted .node, .checkFailures .node, .malformed .node, .wrongKind .node,
     .requestsAdmitted, .refusalsDropped, .strays, .answersDiscarded, .managementOverruns]
  | .outcomes =>
    [.refusals .rule, .refusals .meter, .refusals .holdDenied, .refusals .holdExpired, .refusals .holdFull,
     .refusals .tableFull, .refusals .tagInUse, .refusals .badTarget, .refusals .noResponse, .refusals .linkDown,
     .commitsApplied, .commitsCancelled, .logRecordsLost]

/-- The thirteen event kinds (R111). -/
def allEventKinds : List EventKind :=
  [.holdWaiting, .holdExpired, .holdOverflow, .responseTimeout, .strayResponse, .meterExceeded, .logThreshold,
   .logLoss, .commitApplied, .linkChange, .admissionFull, .livenessWarning, .fallbackEntered]

/-! ### Notices -/

/-- The NOTICE that is built now for a station under a number (R118). -/
def noticeNow (owner number : Byte) (s : State) : Notice where
  destination := owner
  number := number
  events := s.events.status &&& s.events.enable &&& ~~~s.events.line
  holds := s.holdQueue.length
  fill := s.log.records.length
  mode := s.control.mode
  commit := s.commit.state

/-- The notice condition has been evaluated for the owner of the open session, with the sender and its slot as the first
state has them (R117, R118): an IDLE sender makes a notice when an enabled status routed to NOTICE is set. -/
def NoticeEvaluated (owner : Byte) (s t : State) : Prop :=
  if s.notice.state = .idle ∧ s.events.status &&& s.events.enable &&& ~~~s.events.line ≠ 0 then
    t.notice = ⟨.awaitingAck (s.now + 10000 * s.notice.interval), s.notice.number + 1, s.notice.interval⟩
    ∧ t.sPort.slot = if s.sPort.sending = some .notice then s.sPort.slot
        else some (noticeNow owner (s.notice.number + 1) s)
  else t.notice = s.notice ∧ t.sPort.slot = s.sPort.slot

/-! ### Boundaries and fallback -/

/-- A boundary without a commit (R66, R75). -/
structure PlainBoundary (s t : State) : Prop where
  epoch : t.epoch = { s.epoch with number := s.epoch.number + 1, offset := 0 }
  meters : ∀ m : Fin Config.meters, t.meters[m] = { s.meters[m] with consumed := 0 }

/-- What a boundary without a commit changes. -/
def boundaryParts : List Part := .epoch :: (List.finRange Config.meters).map .meter

/-- What changing the epoch length in force does to the running epoch (R65): a boundary at once when the offset is at or
above the new length. -/
def EpochAdopts (length : Nat) (s t : State) : Prop :=
  if length ≤ s.epoch.offset then PlainBoundary s t
  else t.epoch = s.epoch ∧ ∀ m : Fin Config.meters, t.meters[m] = s.meters[m]

/-- The records of one hold resolved at fallback entry (R8, R20, R59, R60). -/
def resolutionRecords (s : State) (r : HoldRef) : List RecordBody :=
  match s.entryState r.index with
  | .held x hold => match hold.default with
    | .pass => holdRecord .holdExpired x none true :: forwardRecords x s
    | .refuse => [holdRecord .holdExpired x (some .holdExpired) true]
  | .free => []
  | .queued _ => []
  | .inFlight _ _ => []
  | .returning _ _ => []

/-- An entry before and after a fallback entry resolved it (R8, R9, R59). -/
def resolvedState (s : State) : EntryState → EntryState
  | .held x hold =>
    if hold.default = .pass ∧ s.nPort.link.isUp = true then .queued x
    else if s.sPort.link.isUp then
      .returning x (.refusal (if hold.default = .pass then .linkDown else .holdExpired))
    else .free
  | .free => .free
  | .queued x => .queued x
  | .inFlight x d => .inFlight x d
  | .returning x a => .returning x a

/-- A held entry's default is PASS. -/
def passesByDefault (s : State) (r : HoldRef) : Bool :=
  match s.entryState r.index with
  | .held _ hold => decide (hold.default = .pass)
  | .free => false
  | .queued _ => false
  | .inFlight _ _ => false
  | .returning _ _ => false

/-- A held entry's default takes it to the node transmit queue (R8, R59). -/
def forwardedByDefault (s : State) (r : HoldRef) : Bool := passesByDefault s r && s.nPort.link.isUp

/-- Fallback entry (R160). A held entry that is not forwarded is answered, and with the S-port not UP it is freed at once and
counted as discarded; a default PASS with the N-port not UP is answered LINK_DOWN (R8, R9, R59). -/
structure FellBack (cause : FallbackCause) (s t : State) : Prop where
  mode : t.control.mode = .fallback
  commit : t.commit = { s.commit with state := .idle }
  cancelled : t.count .commitsCancelled
    = if s.commit.state = .pending then s.count .commitsCancelled + 1 else s.count .commitsCancelled
  noHolds : t.holdQueue = []
  holdWaiting : t.events.isSet .holdWaiting = false
  entries : ∀ i : EntryIndex, t.table[i] = ⟨s.generation i, resolvedState s (s.entryState i)⟩
  nodeQueue : t.nPort.queue = s.nPort.queue ++ (s.holdQueue.filter (forwardedByDefault s)).map (·.index)
  returns : t.sPort.returns = s.sPort.returns
    ++ (if s.sPort.link.isUp then (s.holdQueue.filter fun r => !forwardedByDefault s r).map (·.index) else [])
  expired : t.count (.refusals .holdExpired)
    = s.count (.refusals .holdExpired) + BitVec.ofNat 32 (s.holdQueue.countP fun r => !passesByDefault s r)
  linkDown : t.count (.refusals .linkDown) = s.count (.refusals .linkDown)
    + BitVec.ofNat 32 (if s.nPort.link.isUp then 0 else s.holdQueue.countP (passesByDefault s))
  discarded : t.count .answersDiscarded = s.count .answersDiscarded
    + BitVec.ofNat 32 (if s.sPort.link.isUp then 0 else s.holdQueue.countP fun r => !forwardedByDefault s r)
  record : t.control.fallbackRecord
    = ⟨if s.control.fallbackRecord.count < 65535 then s.control.fallbackRecord.count + 1
        else s.control.fallbackRecord.count, some cause, some s.epoch.number⟩
  alerted : t.events.isSet .fallbackEntered = true
  log : t.log = logAfterAll s.epoch s.log (s.holdQueue.flatMap (resolutionRecords s)
    ++ [partRecord .modeChange .fallback (some (.modeChange cause.modeCause))])
  adopts : EpochAdopts 10000 s t

/-- What fallback entry may change. -/
def fallbackParts : List Part :=
  [.mode, .commit, .counter .commitsCancelled, .holdQueue, .status .holdWaiting, .status .fallbackEntered,
   .fallbackRecord, .returns, .nodeQueue, .counter .answersDiscarded, .counter (.refusals .linkDown),
   .counter (.refusals .holdExpired)]
  ++ (List.finRange Config.entries).map .entry ++ recordParts ++ boundaryParts

/-! ### Resets -/

/-- The state of every block after a management reset that discards a number of entries (R148). -/
structure AfterManagementReset (discarded : Nat) (s t : State) : Prop where
  table : ∀ i : EntryIndex, t.table[i] = ⟨0, .free⟩
  cause : t.resetCause = ⟨.management, discarded⟩
  holds : t.holdQueue = []
  banks : t.active = resetBank ∧ t.shadow = resetBank
  commit : t.commit = ⟨.idle, 0⟩
  epoch : t.epoch = ⟨0, 0, .off, none⟩
  meters : ∀ m : Fin Config.meters, t.meters[m] = ⟨0, 0⟩
  events : t.events.status = 0 ∧ t.events.enable = fixedEvents ∧ t.events.line = fixedEvents
  alert : t.alert = false
  notice : t.notice = ⟨.idle, 0, 10⟩
  session : t.session = ⟨none, s.session.number, false⟩
  mode : t.control = { s.control with
    mode := if s.control.start = .opened then .governed else .fallback
    liveness := .disarmed
    period := 50 }
  queues : t.sPort.replies = [] ∧ t.sPort.slot = none ∧ t.sPort.returns = [] ∧ t.sPort.refusals = []
    ∧ t.nPort.queue = []
  idle : t.sPort.sending = none ∧ t.nPort.busy = false
  counters : (∀ c, t.count c = 0) ∧ t.counters.nextGroup = .traffic
  kept : t.log = s.log ∧ t.fallback = s.fallback ∧ t.nPort.link = s.nPort.link ∧ t.now = s.now

/-! ### Well-formed contents -/

/-- An address a rule may name (R25). -/
def ruleAddress (a : Byte) : Prop := 1 ≤ a.toNat ∧ a.toNat ≤ 62

/-- The part of a rule that bank rules and fallback rules share has the form of R25. -/
structure Selector.Legal (s : Selector) : Prop where
  low : ruleAddress s.nodeLow
  high : ruleAddress s.nodeHigh
  nodes : s.nodeLow.toNat ≤ s.nodeHigh.toNat
  operations : (s.operations.read || s.operations.write || s.operations.exec) = true
  registers : s.registerLow.toNat ≤ s.registerHigh.toNat
  stations : ∀ l, s.stations = some l → 1 ≤ l.length ∧ l.length ≤ 4 ∧ l.Nodup ∧ ∀ a ∈ l, ruleAddress a

/-- The form of a bank rule (R25). -/
structure Rule.Legal (r : Rule) : Prop where
  selector : r.selector.Legal
  window : ∀ w, r.window = some w → w.openOffset ≤ 999999 ∧ w.closeOffset ≤ 999999 ∧ w.openOffset ≠ w.closeOffset
  hold : ∀ limit d, r.action = .hold limit d → 1 ≤ limit ∧ limit ≤ 60000

/-- Every window of a bank lies below the bank's epoch length (R87). -/
def Bank.WindowsFit (b : Bank) : Prop :=
  ∀ (n : Fin Config.bankSlots) r w, b.slots[n] = some r → r.window = some w →
    w.openOffset < b.params.epochLength ∧ w.closeOffset < b.params.epochLength

/-- A bank's contents have the form of R23 and R25. -/
structure Bank.Legal (b : Bank) : Prop where
  rules : ∀ (n : Fin Config.bankSlots) r, b.slots[n] = some r → r.Legal
  timeout : 1 ≤ b.params.responseTimeout ∧ b.params.responseTimeout ≤ 255
  epochLength : 100 ≤ b.params.epochLength ∧ b.params.epochLength ≤ 1000000

/-- The fallback table's contents have the form of R24 and R26. -/
structure FallbackTable.Legal (f : FallbackTable) : Prop where
  rules : ∀ (n : Fin Config.fallbackSlots) r, f.slots[n] = some r → r.selector.Legal
  timeout : 1 ≤ f.responseTimeout ∧ f.responseTimeout ≤ 255

/-! ### Field checks -/

/-- A byte of a rule record (R189). -/
def recordByte (record : List Byte) (place : Nat) : Nat := (record.getD place 0).toNat

/-- A two-byte field of a rule record. -/
def recordHalf (record : List Byte) (place : Nat) : Nat :=
  recordByte record place * 256 + recordByte record (place + 1)

/-- A three-byte field of a rule record. -/
def recordOffset (record : List Byte) (place : Nat) : Nat :=
  recordHalf record place * 256 + recordByte record (place + 2)

/-- A presence bit of a rule record. -/
def recordHas (record : List Byte) (bit : Nat) : Bool := (record.getD 0 0).getLsbD bit

/-- The stations a rule record lists. -/
def recordStations (record : List Byte) : List Byte := ((record.drop 9).take 4).take (recordByte record 8)

/-- The checks that WRITE_RULE and WRITE_FALLBACK_RULE share, by their place in the order (R37, R42). -/
def SelectorFieldFails (record : List Byte) : Nat → Prop
  | 2 => recordByte record 1 = 0 ∨ 62 < recordByte record 1
  | 3 => recordByte record 2 = 0 ∨ 62 < recordByte record 2 ∨ recordByte record 2 < recordByte record 1
  | 4 => recordByte record 3 % 8 = 0
  | 5 => recordHalf record 6 < recordHalf record 4
  | 6 => 4 < recordByte record 8 ∨ (∃ a ∈ recordStations record, ¬ ruleAddress a) ∨ ¬ (recordStations record).Nodup
  | _ => False

/-- The field of WRITE_RULE at a place of the check order fails (R37). -/
def RuleFieldFails (slot : Byte) (record : List Byte) : Nat → Prop
  | 1 => 127 < slot.toNat
  | 7 => recordHas record 0 = true ∧ (999999 < recordOffset record 13 ∨ 999999 < recordOffset record 16
      ∨ recordOffset record 13 = recordOffset record 16)
  | 8 => 3 < recordByte record 19
  | 9 => (recordHas record 1 = true ∧ (recordByte record 19 ≠ 3 ∨ 15 < recordByte record 20))
      ∨ (recordHas record 1 = false ∧ recordByte record 19 = 3)
  | 10 => (recordHas record 2 = true
        ∧ (recordByte record 19 ≠ 2 ∨ recordHalf record 21 = 0 ∨ 60000 < recordHalf record 21))
      ∨ (recordHas record 2 = false ∧ recordByte record 19 = 2)
  | 11 => (recordHas record 3 = true ∧ (recordByte record 19 ≠ 2 ∨ 1 < recordByte record 23))
      ∨ (recordHas record 3 = false ∧ recordByte record 19 = 2)
  | 12 => 2 < recordByte record 24
  | n => SelectorFieldFails record n

/-- The field of WRITE_FALLBACK_RULE at a place of the check order fails (R42). -/
def FallbackFieldFails (slot : Byte) (record : List Byte) : Nat → Prop
  | 1 => 7 < slot.toNat
  | 7 => recordHas record 0 = true
  | 8 => 1 < recordByte record 19
  | 9 => recordHas record 1 = true
  | 10 => recordHas record 2 = true
  | 11 => recordHas record 3 = true
  | 12 => 2 < recordByte record 24
  | n => SelectorFieldFails record n

/-- The first field of WRITE_RULE that fails (R36, R37). -/
def FirstFailingRuleField (slot : Byte) (record : List Byte) (place : Nat) : Prop :=
  1 ≤ place ∧ place ≤ 12 ∧ RuleFieldFails slot record place ∧ ∀ k < place, 1 ≤ k → ¬ RuleFieldFails slot record k

/-- The first field of WRITE_FALLBACK_RULE that fails (R41, R42). -/
def FirstFailingFallbackField (slot : Byte) (record : List Byte) (place : Nat) : Prop :=
  1 ≤ place ∧ place ≤ 12 ∧ FallbackFieldFails slot record place
    ∧ ∀ k < place, 1 ≤ k → ¬ FallbackFieldFails slot record k

/-- A check of WRITE_BANK_PARAMS fails, by its place in the order and, for an exceed action, its meter (R39). -/
def ParameterFails (args : List Byte) : Nat → Nat → Prop
  | 1, 0 => 2 < recordByte args 0
  | 2, 0 => 1 < recordByte args 1
  | 3, 0 => recordByte args 2 = 0
  | 4, 0 => recordOffset args 3 < 100 ∨ 1000000 < recordOffset args 3
  | 5, m => m < 16 ∧ 1 < recordByte args (8 + 3 * m)
  | _, _ => False

/-- The first check of WRITE_BANK_PARAMS that fails (R36, R39). -/
def FirstFailingParameter (args : List Byte) (place meter : Nat) : Prop :=
  ParameterFails args place meter
    ∧ ∀ k m, k < place ∨ (k = place ∧ m < meter) → ¬ ParameterFails args k m

/-! ### The laws of the device -/

/-- The three queues of entries hold exactly the entries of their state, each once; HOLD_WAITING follows the hold queue;
in FALLBACK nothing is held and no commit is pending (R46, R48, R152, R172, R177). -/
structure QueueLaw (s : State) : Prop where
  holdsOnce : (s.holdQueue.map (·.index)).Nodup
  holds : ∀ r, r ∈ s.holdQueue ↔ (∃ x hold, s.entryState r.index = .held x hold) ∧ r.generation = s.generation r.index
  holdRoom : s.holdQueue.length ≤ 16
  holdWaiting : s.events.isSet .holdWaiting = !s.holdQueue.isEmpty
  queuedOnce : s.nPort.queue.Nodup
  queued : ∀ i, i ∈ s.nPort.queue ↔ ∃ x, s.entryState i = .queued x
  returnsOnce : s.sPort.returns.Nodup
  returns : ∀ i, i ∈ s.sPort.returns ↔ ∃ x a, s.entryState i = .returning x a
  fallback : s.control.mode = .fallback → s.holdQueue = [] ∧ s.commit.state = .idle

/-- No two entries in use share station and tag (R3). -/
def TagLaw (s : State) : Prop :=
  ∀ i j x y, (s.entryState i).txn? = some x → (s.entryState j).txn? = some y →
    x.request.station = y.request.station → x.request.tag = y.request.tag → i = j

/-- No meter's consumed count exceeds its budget in the active bank (R74). -/
def MeterLaw (s : State) : Prop :=
  ∀ m : Fin Config.meters, s.meters[m].consumed.toNat ≤ (s.active.params.meters[m]).budget.toNat

/-- The active bank's windows fit its epoch length, and so do the frozen shadow bank's while a commit is pending
(R84, R87). -/
def WindowLaw (s : State) : Prop := s.active.WindowsFit ∧ (s.commit.state = .pending → s.shadow.WindowsFit)

/-- Rules and parameters have the form the manual gives them, and the offset lies below the epoch length in force
(R23 to R26, R64). -/
structure RuleLaw (s : State) : Prop where
  active : s.active.Legal
  shadow : s.shadow.Legal
  fallback : s.fallback.Legal
  offset : s.epoch.offset < s.epochLength

/-- The liveness timer is armed exactly while a session is open; notices go to the owner of an open session, and none is
due that has not been made (R117, R127). -/
structure SessionLaw (s : State) : Prop where
  timed : s.session.current = none ↔ s.control.liveness = .disarmed
  senderIdle : s.session.current = none → s.notice.state = .idle
  slotOwned : ∀ n, s.sPort.slot = some n → ∃ o, s.session.current = some o ∧ n.destination = o.owner
  served : s.session.current.isSome = true → s.notice.state = .idle → s.events.noticeSet = 0

/-- Counts and settings stay in their ranges (R22, R96, R111, R117, R155, R163, R172). -/
structure RangeLaw (s : State) : Prop where
  log : s.log.records.length ≤ 256
  threshold : 1 ≤ s.log.threshold ∧ s.log.threshold ≤ 256
  replies : s.sPort.replies.length ≤ 4
  refusals : s.sPort.refusals.length ≤ 4
  interval : 2 ≤ s.notice.interval ∧ s.notice.interval ≤ 255
  period : 1 ≤ s.control.period ∧ s.control.period ≤ 255
  fallbackCount : s.control.fallbackRecord.count ≤ 65535
  discarded : s.resetCause.discarded ≤ 32
  fixedEnabled : s.events.enable &&& fixedEvents = fixedEvents
  fixedOnLine : s.events.line &&& fixedEvents = fixedEvents

/-- How an entry may move in one event that is not a reset: forward through its states with the fields it was decided
with, or from FREE by an allocation (R2, R3, R7). -/
def EntryMoves (e f : Entry) : Prop :=
  match e.state with
  | .free => f = e ∨ (f.generation = e.generation + 1 ∧ ∃ x,
      (∃ hold, f.state = .held x hold) ∨ f.state = .queued x ∨ ∃ c, f.state = .returning x (.refusal c))
  | .held x hold => f.generation = e.generation ∧ (f.state = .held x hold ∨ f.state = .queued x
      ∨ (∃ c, f.state = .returning x (.refusal c)) ∨ f.state = .free)
  | .queued x => f.generation = e.generation ∧ (f.state = .queued x ∨ (∃ d, f.state = .inFlight x d)
      ∨ f.state = .returning x (.refusal .linkDown) ∨ f.state = .free)
  | .inFlight x d => f.generation = e.generation ∧ (f.state = .inFlight x d ∨ (∃ a, f.state = .returning x a)
      ∨ f.state = .free)
  | .returning x a => f.generation = e.generation ∧ (f.state = .returning x a ∨ f.state = .free)

/-- The front command performs the awaited management reset: it completes the last part of the RESET_PART reply, or takes
the S-port out of UP (R148, R186). -/
def PerformsReset (s : State) : Prop :=
  s.session.resetAwaited = true
  ∧ ((∃ rest, s.pending = .lossOfSignal .station :: rest ∧ s.sPort.link.isUp = true)
    ∨ ∃ rest part r replies, s.pending = .sPortTransmitComplete :: rest ∧ s.sPort.sending = some (.reply part)
      ∧ s.sPort.replies = r :: replies ∧ r.code = 0x05 ∧ r.result = .done ∧ r.payload.length ≤ 67 * (part + 1))

/-- The first queue of the S-port that is not empty, by rank (R173). -/
def StationPort.firstByRank (p : StationPort) (x : Sending) : Prop :=
  (x = .reply 0 ∧ p.replies ≠ [])
  ∨ (x = .notice ∧ p.replies = [] ∧ p.slot ≠ none)
  ∨ (x = .answer ∧ p.replies = [] ∧ p.slot = none ∧ p.returns ≠ [])
  ∨ (x = .refusal ∧ p.replies = [] ∧ p.slot = none ∧ p.returns = [] ∧ p.refusals ≠ [])

/-- The S-port's transmission ends in a step: its completion is taken (R174), or a change of session abandons the NOTICE
under transmission (R123). A port that leaves UP and a reset end it as well, and leave nothing to send. -/
def SendingEnds (s t : State) : Prop :=
  (∃ rest, s.pending = .sPortTransmitComplete :: rest)
  ∨ (s.sPort.sending = some .notice ∧ s.session.current.isSome = true
    ∧ (t.session.current = none ∨ t.session.number ≠ s.session.number))

/-- The S-port goes on with the frame it was sending: the frame of that kind at the head of its queue is the same (R173). -/
def SendingGoesOn (p q : StationPort) (x : Sending) : Prop :=
  p.sending = some x ∧ match x with
    | .reply _ => ∀ r, p.replies.head? = some r → q.replies.head? = some r
    | .notice => q.slot = p.slot
    | .answer => ∀ i, p.returns.head? = some i → q.returns.head? = some i
    | .refusal => ∀ r, p.refusals.head? = some r → q.refusals.head? = some r

/-- The S-port sends what its arbiter takes: it is UP, and the frame heads the first queue by rank (R173). -/
def SendingByRank (p : StationPort) (x : Sending) : Prop := p.link.isUp = true ∧ p.firstByRank x

/-- An expiry is due: its deadline has been reached (R15, R57, R117, R155). -/
def Due (s : State) : Instr → Prop
  | .holdDeadlineExpiry i => ∃ x hold, s.entryState i = .held x hold ∧ hold.deadline ≤ s.now
  | .responseDeadlineExpiry i => ∃ x d, s.entryState i = .inFlight x d ∧ d ≤ s.now
  | .livenessExpiry => ∃ d, (s.control.liveness = .running d ∨ s.control.liveness = .warned d) ∧ d ≤ s.now
  | .noticeRetryExpiry => ∃ d, s.notice.state = .awaitingAck d ∧ d ≤ s.now
  | _ => False

end Sys2Proof.Machine
end

