-- ==== Sys2Proof/WellFormed.lean ====
section
/-! DEFINITION. When a command can happen to the part: what the reception checks and the line let through. -/
namespace Sys2Proof

open Machine (CommandName)

/-- A valid link address (00_scope, Link addresses). -/
def validAddress (a : Byte) : Bool := decide (1 ≤ a.toNat ∧ a.toNat ≤ 62)

/-- The data agrees with the operation, and an EXEC's command code fits one byte (R170 check 1, R184). -/
def RequestBody.wellFormed (register : Half) : RequestBody → Bool
  | .read wanted => decide (1 ≤ wanted.toNat ∧ wanted.toNat ≤ 64)
  | .write data => decide (1 ≤ data.length ∧ data.length ≤ 64)
  | .exec arguments => decide (arguments.length ≤ 16 ∧ register.toNat ≤ 255)

/-- An accepted REQUEST (R170). -/
def Request.wellFormed (q : Request) : Bool :=
  validAddress q.station && validAddress q.node && q.body.wellFormed q.register

/-- An accepted RESPONSE (R170). -/
def Response.wellFormed (r : Response) : Bool :=
  validAddress r.station && validAddress r.node && decide (r.data.length ≤ 64)

/-- An accepted COMMAND: a valid source, and arguments that a body of 72 bytes has room for (R170, R185). -/
def CommandHeader.wellFormed (h : CommandHeader) (args : List Byte) : Bool :=
  validAddress h.source && decide (args.length ≤ 69)

/-- An arrival stamp's offset lies below the greatest epoch length (R64, R65). -/
def Stamp.wellFormed (t : Stamp) : Bool := decide (t.offset < 1000000)

/-- The commands that can happen to the part. -/
def Instr.wellFormed : Instr → Bool
  | .rstNAsserted => true
  | .powerOnReset _ _ => true
  | .signalDetected _ => true
  | .validIdleSymbol _ => true
  | .otherSymbol _ _ => true
  | .lossOfSignal _ => true
  | .frameRejected _ _ => true
  | .requestArrival q t => q.wellFormed && t.wellFormed
  | .responseArrival r => r.wellFormed
  | .responseDeadlineExpiry _ => true
  | .nodeTransmitComplete => true
  | .sPortTransmitComplete => true
  | .holdDeadlineExpiry _ => true
  | .epochBoundary => true
  | .syncInEdge _ => true
  | .livenessExpiry => true
  | .noticeRetryExpiry => true
  | .unknownCommand code h args => h.wellFormed args && (CommandName.ofCode code).isNone
  | .probe h args | .openSession h args | .closeSession h args | .keepalive h args | .resetPart h args
  | .getStatus h args | .clearEvents h args | .setEvents h args | .ackNotice h args | .setNoticeRetry h args
  | .setLiveness h args | .enterFallback h args | .resume h args | .writeRule h args | .eraseRule h args
  | .clearShadow h args | .copyActiveToShadow h args | .writeBankParams h args | .readRule h args
  | .readBankParams h args | .writeFallbackRule h args | .eraseFallbackRule h args | .writeFallbackParams h args
  | .readFallback h args | .commit h args | .abortCommit h args | .listHolds h args | .release h args
  | .deny h args | .readMeters h args | .getTime h args | .alignEpoch h args | .setSync h args | .readLog h args
  | .setLog h args | .readCounters h args => h.wellFormed args

end Sys2Proof
end

