-- ==== Sys2Proof/Certificates/Slice0/Obligations.lean ====
section
/-! DEFINITION. The statements for the provers. -/
section
open Sys2Proof Sys2Proof.Machine

/-! ### Steps, resets, reset line -/

/-- A step takes the command at the front of the queue and runs it on the state with the queue's rest (log 1). -/
def Obligations.StepRunsFrontCommand : Prop :=
  ∀ (c : Instr) (rest : List Instr) (s : State), step { s with pending := c :: rest } = exec c { s with pending := rest }

/-- With no command waiting, a step takes an expiry that is due, whichever the free choice picks, or else lets one
microsecond pass: the offset moves on by one, or a boundary is taken when it would reach the length in force. Held in
reset, no time passes and no expiry is taken, which is the model's reading (log 7); the reading of running time is the
model's too (log 1, log 2, log 4). -/
def Obligations.IdleStepTakesExpiryOrTick : Prop :=
  ∀ s : State, s.pending = [] →
    (s.heldInReset = true → step s = .next s)
    ∧ (s.heldInReset = false → (∃ c, Due s c) →
        ∃ c, Due s c ∧ step s = exec c { s with choices := s.choices + 1 })
    ∧ (s.heldInReset = false → (¬ ∃ c, Due s c) → s.epoch.offset + 1 < s.epochLength →
        ∃ t, step s = .next t ∧ t.now = s.now + 1
          ∧ t.epoch = { s.epoch with offset := s.epoch.offset + 1 } ∧ SameBut [.now, .epoch] s t)
    ∧ (s.heldInReset = false → (¬ ∃ c, Due s c) → s.epochLength ≤ s.epoch.offset + 1 →
        step s = exec .epochBoundary { s with now := s.now + 1 })

/-- Every command completes in every state: the part never stops (the model's reading, 00_scope). An expiry with no
deadline behind it changes nothing (log 6). -/
def Obligations.EveryCommandCompletes : Prop :=
  (∀ (c : Instr) (s : State), ∃ t, exec c s = .next t)
  ∧ (∀ (i : EntryIndex) (s : State), s.heldInReset = false →
    ((∀ x hold, s.entryState i ≠ .held x hold) → ∃ t, exec (.holdDeadlineExpiry i) s = .next t ∧ SameBut [] s t)
    ∧ ((∀ x d, s.entryState i ≠ .inFlight x d) → ∃ t, exec (.responseDeadlineExpiry i) s = .next t ∧ SameBut [] s t)
    ∧ (s.control.liveness = .disarmed → ∃ t, exec .livenessExpiry s = .next t ∧ SameBut [] s t)
    ∧ (s.notice.state = .idle → ∃ t, exec .noticeRetryExpiry s = .next t ∧ SameBut [] s t))

/-- What a power-on reset leaves in every block (R44, R62, R94, R109, R125, R150, R166, R181; straps R153, R154). -/
def Obligations.PowerOnResetLeaves : Prop :=
  ∀ (straps : BitVec 6) (start : StartStrap) (s : State), ∃ t, exec (.powerOnReset straps start) s = .next t
    ∧ (∀ i : EntryIndex, t.table[i] = ⟨0, .free⟩) ∧ t.resetCause = ⟨.powerOn, 0⟩ ∧ t.heldInReset = false
    ∧ (∀ n : Fin Config.bankSlots, t.active.slots[n] = none ∧ t.shadow.slots[n] = none)
    ∧ (∀ p, p = t.active.params ∨ p = t.shadow.params →
        p.missAction = .pass ∧ p.missLogging = false ∧ p.responseTimeout = 20 ∧ p.epochLength = 10000
        ∧ ∀ m : Fin Config.meters, p.meters[m] = ⟨0, .refuse⟩)
    ∧ (∀ n : Fin Config.fallbackSlots, t.fallback.slots[n] = none)
    ∧ t.fallback.missAction = .passReads ∧ t.fallback.responseTimeout = 20
    ∧ t.commit = ⟨.idle, 0⟩ ∧ t.holdQueue = [] ∧ t.epoch = ⟨0, 0, .off, none⟩
    ∧ (∀ m : Fin Config.meters, t.meters[m] = ⟨0, 0⟩)
    ∧ t.log = ⟨[], 0, .wrap, 192, false, false, 0⟩
    ∧ t.events.status = 0 ∧ t.events.enable = 0b1100000000000 ∧ t.events.line = 0b1100000000000 ∧ t.alert = false
    ∧ t.notice = ⟨.idle, 0, 10⟩ ∧ t.session = ⟨none, 0, false⟩
    ∧ t.control.mode = (if start = .opened then .governed else .fallback) ∧ t.control.start = start
    ∧ t.control.liveness = .disarmed ∧ t.control.period = 50 ∧ t.control.fallbackRecord = ⟨0, none, none⟩
    ∧ (1 ≤ straps.toNat ∧ straps.toNat ≤ 62 →
        t.control.ownAddress.toNat = straps.toNat ∧ t.control.strapFault = false)
    ∧ (straps.toNat = 0 ∨ straps.toNat = 63 → t.control.ownAddress = 62 ∧ t.control.strapFault = true)
    ∧ t.sPort = ⟨.down, [], none, [], [], none⟩ ∧ t.nPort = ⟨.down, [], false⟩ ∧ t.sLine = .idle ∧ t.nLine = .idle
    ∧ (∀ c, t.count c = 0) ∧ t.counters.nextGroup = .traffic

/-- The management reset is performed when the last part of the RESET_PART reply has been sent, or when the S-port leaves
UP, while it is awaited (R148), and leaves every block at its values (R22, R45, R63, R95, R110, R126, R151, R167, R182).
That a frame under reception outlives the reset with its bytes and stamp is the model's reading (log 16), and so is running
time that goes on over it (log 4). -/
def Obligations.ManagementResetLeaves : Prop :=
  (∀ (s : State) part (h : CommandHeader) rest, s.heldInReset = false → s.session.resetAwaited = true →
      s.sPort.sending = some (.reply part) → s.sPort.replies = ⟨h.source, h.tag, 0x05, h.sequence, .done, []⟩ :: rest →
      ∃ t, exec .sPortTransmitComplete s = .next t
        ∧ AfterManagementReset (entryIndices.countP fun i => decide (s.entryState i ≠ .free)) s t
        ∧ t.sPort.link = s.sPort.link)
  ∧ (∀ s : State, FrameReaches .station s → s.session.resetAwaited = true →
      ∃ t, exec (.lossOfSignal .station) s = .next t
        ∧ AfterManagementReset (entryIndices.countP fun i => match s.entryState i with
            | .free => false
            | .held _ _ => true
            | .queued _ => true
            | .inFlight _ _ => true
            | .returning _ _ => false) s t
        ∧ t.sPort.link = .down)

/-- RST_N low holds the part in reset: ALERT is released and no signal is sent (R21); from then on no event but a
power-on reset changes anything (log 7). -/
def Obligations.HeldInReset : Prop :=
  (∀ s : State, ∃ t, exec .rstNAsserted s = .next t ∧ t.heldInReset = true ∧ t.alert = false
      ∧ t.sLine = .silent ∧ t.nLine = .silent
      ∧ SameBut [.heldInReset, .stationTransmission, .nodeTransmission] s t)
  ∧ (∀ (c : Instr) (s : State), s.heldInReset = true → c ≠ .rstNAsserted → (∀ straps start, c ≠ .powerOnReset straps start) →
      exec c s = .next s)

/-! ### Links and frames -/

/-- The link state machine of a port, with LINK_CHANGE at each change (R168, R169). A report that has nothing to act on in
a link state changes nothing (log 6). What leaving UP does is stated apart. -/
def Obligations.LinkReports : Prop :=
  ∀ (p : PortName) (s : State), s.heldInReset = false →
    (s.link p = .down →
      (∃ t, exec (.signalDetected p) s = .next t ∧ t.link p = .syncing 0 ∧ t.events.isSet .linkChange = true
        ∧ SameBut (.link p :: statusParts .linkChange) s t)
      ∧ (∃ t, exec (.validIdleSymbol p) s = .next t ∧ SameBut [] s t)
      ∧ (∀ x, ∃ t, exec (.otherSymbol p x) s = .next t ∧ SameBut [] s t)
      ∧ (∃ t, exec (.lossOfSignal p) s = .next t ∧ SameBut [] s t))
    ∧ (∀ run, s.link p = .syncing run →
      (∃ t, exec (.signalDetected p) s = .next t ∧ SameBut [] s t)
      ∧ (run + 1 < 16 → ∃ t, exec (.validIdleSymbol p) s = .next t ∧ t.link p = .syncing (run + 1)
        ∧ SameBut [.link p] s t)
      ∧ (16 ≤ run + 1 → ∃ t, exec (.validIdleSymbol p) s = .next t ∧ t.link p = .up none
        ∧ t.events.isSet .linkChange = true ∧ SameBut (.link p :: statusParts .linkChange) s t)
      ∧ (∀ x, ∃ t, exec (.otherSymbol p x) s = .next t ∧ t.link p = .syncing 0 ∧ SameBut [.link p] s t)
      ∧ (∃ t, exec (.lossOfSignal p) s = .next t ∧ t.link p = .down ∧ t.events.isSet .linkChange = true
        ∧ SameBut (.link p :: statusParts .linkChange) s t))
    ∧ (∀ r, s.link p = .up r → ∃ t, exec (.signalDetected p) s = .next t ∧ SameBut [] s t)

/-- What the symbols on an UP port do to the frame under reception (R68, R170). -/
def Obligations.SymbolsOfAFrame : Prop :=
  ∀ (p : PortName) (s : State), s.heldInReset = false →
    (s.link p = .up none →
      (∃ t, exec (.otherSymbol p .startDelimiter) s = .next t
        ∧ t.link p = .up (some ⟨⟨s.epoch.number, s.epoch.offset⟩, []⟩) ∧ SameBut [.link p] s t)
      ∧ (∃ t, exec (.validIdleSymbol p) s = .next t ∧ SameBut [] s t)
      ∧ (∀ x, x ≠ .startDelimiter → ∃ t, exec (.otherSymbol p x) s = .next t ∧ SameBut [] s t))
    ∧ (∀ r, s.link p = .up (some r) →
      (∀ b, r.bytes.length < 79 → ∃ t, exec (.otherSymbol p (.byte b)) s = .next t
        ∧ t.link p = .up (some ⟨r.stamp, r.bytes ++ [b]⟩) ∧ SameBut [.link p] s t)
      ∧ (∀ c, c = .validIdleSymbol p ∨ c = .otherSymbol p .invalid ∨ c = .otherSymbol p .startDelimiter
          ∨ (∃ b, c = .otherSymbol p (.byte b) ∧ 79 ≤ r.bytes.length) →
        ∃ t, exec c s = .next t ∧ t.count (.malformed p) = s.count (.malformed p) + 1
          ∧ t.link p = (if c = .otherSymbol p .startDelimiter
              then .up (some ⟨⟨s.epoch.number, s.epoch.offset⟩, []⟩) else .up none)
          ∧ SameBut [.link p, .counter (.malformed p)] s t))

/-- Symbol by symbol a frame comes to the same as the frame taken whole: at the end delimiter, the bytes of a REQUEST, a
RESPONSE or a COMMAND to the own address run that command, and bytes that fail a check are a rejected frame
(R170, R171, R183 to R185). That a frame's row of the table stands for its whole reception is the model's choice (log 8). -/
def Obligations.EndDelimiterRunsTheFrame : Prop :=
  (∀ (q : Request) (r : Reception) (s : State), q.wellFormed = true → s.link .station = .up (some r) →
      r.bytes = frameBytes 0x01 q.node q.station q.tag (requestBytes q) →
      exec (.otherSymbol .station .endDelimiter) s = exec (.requestArrival q r.stamp) s)
  ∧ (∀ (a : Response) (r : Reception) (s : State), a.wellFormed = true → s.link .node = .up (some r) →
      r.bytes = frameBytes 0x02 a.station a.node a.tag (statusCode a.status :: a.detail :: a.data) →
      exec (.otherSymbol .node .endDelimiter) s = exec (.responseArrival a) s)
  ∧ (∀ (code : Byte) (h : CommandHeader) (args : List Byte) (r : Reception) (s : State), h.wellFormed args = true →
      validAddress s.control.ownAddress = true → s.link .station = .up (some r) →
      r.bytes = frameBytes 0x03 s.control.ownAddress h.source h.tag (code :: bytesOf16 h.sequence ++ args) →
      exec (.otherSymbol .station .endDelimiter) s = exec (commandRow code h args) s)
  ∧ (∀ (p : PortName) (r : Reception) (failed : FrameCheck) (s : State), s.link p = .up (some r) →
      checkFrame p s.control.ownAddress r.bytes = .error failed →
      exec (.otherSymbol p .endDelimiter) s = exec (.frameRejected p failed) s)

/-- A rejected frame is discarded and counted by the check it failed (R170); on a port that is not UP there is no frame
(log 6). -/
def Obligations.RejectedFrameIsCounted : Prop :=
  ∀ (p : PortName) (failed : FrameCheck) (c : Counter) (s : State), s.heldInReset = false →
    (failed = .length ∧ c = .malformed p ∨ failed = .checkSequence ∧ c = .checkFailures p
      ∨ failed = .addresses ∧ c = .malformed p ∨ failed = .kindForPort ∧ c = .wrongKind p) →
    ((s.link p).isUp = true → ∃ t, exec (.frameRejected p failed) s = .next t ∧ t.link p = .up none
      ∧ t.count c = s.count c + 1 ∧ SameBut [.link p, .counter c] s t)
    ∧ ((s.link p).isUp = false → ∃ t, exec (.frameRejected p failed) s = .next t ∧ SameBut [] s t)

/-- The four reception checks in order: the first that fails decides (R170). Every complete frame has fewer than seven
bytes or has the form below. That an address byte of 64 to 255 is invalid, where R170 names 0 and 63, is the model's
reading (log 9). -/
def Obligations.FirstFailedCheckDecides : Prop :=
  (∀ p own bytes, bytes.length < 7 → checkFrame p own bytes = .error .length)
  ∧ (∀ p own kind dest src tag len (body : List Byte) hi lo,
      let covered := [kind, dest, src, tag, len] ++ body
      let bytes := covered ++ [hi, lo]
      let lengthHolds := len.toNat = body.length ∧ BodyAllowed kind body
      let sequenceHolds := [hi, lo] = bytesOf16 (crc16 covered)
      let addressesHold := validAddress dest = true ∧ validAddress src = true
      let kindAccepted := (p = .station ∧ (kind = 0x01 ∨ kind = 0x03 ∧ dest = own)) ∨ (p = .node ∧ kind = 0x02)
      (¬ lengthHolds → checkFrame p own bytes = .error .length)
      ∧ (lengthHolds → ¬ sequenceHolds → checkFrame p own bytes = .error .checkSequence)
      ∧ (lengthHolds → sequenceHolds → ¬ addressesHold → checkFrame p own bytes = .error .addresses)
      ∧ (lengthHolds → sequenceHolds → addressesHold → ¬ kindAccepted → checkFrame p own bytes = .error .kindForPort)
      ∧ (lengthHolds → sequenceHolds → addressesHold → kindAccepted → ∃ a, checkFrame p own bytes = .ok a))

/-! ### Requests: admission and classification -/

/-- A request that fails an admission test is refused with that test's cause: the refusal is queued, or dropped when four
wait; it is counted; TABLE_FULL sets ADMISSION_FULL; it is logged when the setting is on; no entry changes (R4, R5). -/
def Obligations.RefusedAtAdmission : Prop :=
  ∀ (q : Request) (stamp : Stamp) (c : RefusalCause) (s : State), FrameReaches .station s → RefusedFor q s c →
    ∃ t, exec (.requestArrival q stamp) s = .next t ∧ FrameTaken .station s t
      ∧ t.count (.refusals c) = s.count (.refusals c) + 1
      ∧ (s.sPort.refusals.length < 4 → t.sPort.refusals = s.sPort.refusals ++ [⟨q.station, q.tag, c⟩]
          ∧ t.count .refusalsDropped = s.count .refusalsDropped)
      ∧ (4 ≤ s.sPort.refusals.length → t.sPort.refusals = s.sPort.refusals
          ∧ t.count .refusalsDropped = s.count .refusalsDropped + 1)
      ∧ (c = .tableFull → t.events.isSet .admissionFull = true)
      ∧ t.log = logAfterAll s.epoch s.log (admissionRecords q c s)
      ∧ SameBut (frameParts .station ++ [.counter (.refusals c), .refusals, .counter .refusalsDropped]
          ++ (if c = .tableFull then statusParts .admissionFull else []) ++ loggingParts (admissionRecords q c s)) s t

/-- A request decided PASS takes the forward step with the fields it was decided with (R6, R8, R30, R31, R32). -/
def Obligations.RequestDecidedPass : Prop :=
  ∀ (q : Request) (stamp : Stamp) (i : EntryIndex) (s : State), Admitted q i s →
    let v := s.verdict q stamp.offset
    let x : Txn := ⟨q, stamp.offset, v.table, v.slot, .pass, v.logLevel, v.responseTimeout⟩
    let records := decisionRecords x .pass none none ++ forwardRecords x s
    v.action = .pass →
    ∃ t, exec (.requestArrival q stamp) s = .next t ∧ FrameTaken .station s t
      ∧ t.count .requestsAdmitted = s.count .requestsAdmitted + 1
      ∧ Forwarded i (s.generation i + 1) x s t
      ∧ t.log = logAfterAll s.epoch s.log records
      ∧ SameBut (admissionParts ++ forwardParts i s ++ loggingParts records) s t

/-- A request decided REFUSE is answered RULE (R6, R9, R31, R32). -/
def Obligations.RequestDecidedRefuse : Prop :=
  ∀ (q : Request) (stamp : Stamp) (i : EntryIndex) (s : State), Admitted q i s →
    let v := s.verdict q stamp.offset
    let x : Txn := ⟨q, stamp.offset, v.table, v.slot, .refuse, v.logLevel, v.responseTimeout⟩
    let records := decisionRecords x .refuse none (some .rule)
    v.action = .refuse →
    ∃ t, exec (.requestArrival q stamp) s = .next t ∧ FrameTaken .station s t
      ∧ t.count .requestsAdmitted = s.count .requestsAdmitted + 1
      ∧ GivenAnswer i (s.generation i + 1) x (.refusal .rule) s t
      ∧ t.log = logAfterAll s.epoch s.log records
      ∧ SameBut (admissionParts ++ answerParts i (.refusal .rule) ++ loggingParts records) s t

/-- A request decided HOLD is held with its deadline while the hold queue has room, and answered HOLD_FULL with
HOLD_OVERFLOW set when it has none (R33, R47, R48). -/
def Obligations.RequestDecidedHold : Prop :=
  ∀ (q : Request) (stamp : Stamp) (i : EntryIndex) (limit : Nat) (d : PassRefuse) (s : State), Admitted q i s →
    let v := s.verdict q stamp.offset
    let x : Txn := ⟨q, stamp.offset, v.table, v.slot, .hold, v.logLevel, v.responseTimeout⟩
    v.action = .hold limit d →
    (s.holdQueue.length < 16 →
      ∃ t, exec (.requestArrival q stamp) s = .next t ∧ FrameTaken .station s t
        ∧ t.count .requestsAdmitted = s.count .requestsAdmitted + 1
        ∧ t.table[i] = ⟨s.generation i + 1, .held x ⟨limit, d, s.now + 1000 * limit⟩⟩
        ∧ t.holdQueue = s.holdQueue ++ [⟨i, s.generation i + 1⟩]
        ∧ t.events.isSet .holdWaiting = true
        ∧ t.log = logAfterAll s.epoch s.log (decisionRecords x .hold none none)
        ∧ SameBut (admissionParts ++ [.entry i, .holdQueue] ++ statusParts .holdWaiting
            ++ loggingParts (decisionRecords x .hold none none)) s t)
    ∧ (16 ≤ s.holdQueue.length →
      ∃ t, exec (.requestArrival q stamp) s = .next t ∧ FrameTaken .station s t
        ∧ t.count .requestsAdmitted = s.count .requestsAdmitted + 1
        ∧ GivenAnswer i (s.generation i + 1) x (.refusal .holdFull) s t
        ∧ t.events.isSet .holdOverflow = true
        ∧ t.log = logAfterAll s.epoch s.log (decisionRecords x .hold none (some .holdFull))
        ∧ SameBut (admissionParts ++ answerParts i (.refusal .holdFull) ++ statusParts .holdOverflow
            ++ loggingParts (decisionRecords x .hold none (some .holdFull))) s t)

/-- A request decided METER consumes a unit within budget and is forwarded; over budget it is counted as exceeding, sets
METER_EXCEEDED, and is refused METER or forwarded flagged, as the meter's exceed action says (R34, R35). -/
def Obligations.RequestDecidedMeter : Prop :=
  ∀ (q : Request) (stamp : Stamp) (i : EntryIndex) (m : Fin Config.meters) (s : State), Admitted q i s →
    let v := s.verdict q stamp.offset
    let x : Txn := ⟨q, stamp.offset, v.table, v.slot, .meter, v.logLevel, v.responseTimeout⟩
    let setting := s.active.params.meters[m]
    let within := decisionRecords x .pass (some ⟨m, false⟩) none ++ forwardRecords x s
    let refused := decisionRecords x .refuse (some ⟨m, true⟩) (some .meter)
    let flagged := [decisionRecord x .pass (some ⟨m, true⟩) none] ++ forwardRecords x s
    v.action = .meter m →
    (s.meters[m].consumed.toNat < setting.budget.toNat →
      ∃ t, exec (.requestArrival q stamp) s = .next t ∧ FrameTaken .station s t
        ∧ t.count .requestsAdmitted = s.count .requestsAdmitted + 1
        ∧ t.meters[m] = ⟨s.meters[m].consumed + 1, s.meters[m].exceed⟩
        ∧ Forwarded i (s.generation i + 1) x s t
        ∧ t.log = logAfterAll s.epoch s.log within
        ∧ SameBut (admissionParts ++ [.meter m] ++ forwardParts i s ++ loggingParts within) s t)
    ∧ (setting.budget.toNat ≤ s.meters[m].consumed.toNat → setting.exceed = .refuse →
      ∃ t, exec (.requestArrival q stamp) s = .next t ∧ FrameTaken .station s t
        ∧ t.count .requestsAdmitted = s.count .requestsAdmitted + 1
        ∧ t.meters[m] = ⟨s.meters[m].consumed, s.meters[m].exceed + 1⟩
        ∧ t.events.isSet .meterExceeded = true
        ∧ GivenAnswer i (s.generation i + 1) x (.refusal .meter) s t
        ∧ t.log = logAfterAll s.epoch s.log refused
        ∧ SameBut (admissionParts ++ [.meter m] ++ statusParts .meterExceeded ++ answerParts i (.refusal .meter)
            ++ loggingParts refused) s t)
    ∧ (setting.budget.toNat ≤ s.meters[m].consumed.toNat → setting.exceed = .passFlagged →
      ∃ t, exec (.requestArrival q stamp) s = .next t ∧ FrameTaken .station s t
        ∧ t.count .requestsAdmitted = s.count .requestsAdmitted + 1
        ∧ t.meters[m] = ⟨s.meters[m].consumed, s.meters[m].exceed + 1⟩
        ∧ t.events.isSet .meterExceeded = true
        ∧ Forwarded i (s.generation i + 1) x s t
        ∧ t.log = logAfterAll s.epoch s.log flagged
        ∧ SameBut (admissionParts ++ [.meter m] ++ statusParts .meterExceeded ++ forwardParts i s
            ++ loggingParts flagged) s t)

/-- When a request matches a rule (R28), and which rule or miss decides it (R29). -/
def Obligations.FirstMatchDecides : Prop :=
  (∀ (r : Rule) (q : Request) (offset : Nat), r.matchesRequest q offset = true ↔
      r.selector.nodeLow.toNat ≤ q.node.toNat ∧ q.node.toNat ≤ r.selector.nodeHigh.toNat
      ∧ (match q.body with
          | .read _ => r.selector.operations.read = true
          | .write _ => r.selector.operations.write = true
          | .exec _ => r.selector.operations.exec = true)
      ∧ r.selector.registerLow.toNat ≤ q.register.toNat ∧ q.register.toNat ≤ r.selector.registerHigh.toNat
      ∧ (∀ l, r.selector.stations = some l → q.station ∈ l)
      ∧ (∀ w, r.window = some w →
          (w.openOffset < w.closeOffset → w.openOffset ≤ offset ∧ offset < w.closeOffset)
          ∧ (w.closeOffset ≤ w.openOffset → w.openOffset ≤ offset ∨ offset < w.closeOffset)))
  ∧ (∀ (s : State) (q : Request) (offset : Nat), s.control.mode = .governed →
      (∀ (n : Fin Config.bankSlots) r, s.active.slots[n] = some r → r.matchesRequest q offset = true →
        (∀ k : Fin Config.bankSlots, k < n → ∀ r', s.active.slots[k] = some r' → r'.matchesRequest q offset = false) →
        s.verdict q offset = ⟨.active s.commit.generation, some n.val, r.action, r.logLevel,
          s.active.params.responseTimeout⟩)
      ∧ ((∀ (k : Fin Config.bankSlots) r', s.active.slots[k] = some r' → r'.matchesRequest q offset = false) →
        s.verdict q offset = ⟨.active s.commit.generation, none, MissDecision s.active.params.missAction q,
          if s.active.params.missLogging then .decision else .none, s.active.params.responseTimeout⟩))
  ∧ (∀ (s : State) (q : Request) (offset : Nat), s.control.mode = .fallback →
      (∀ (n : Fin Config.fallbackSlots) r, s.fallback.slots[n] = some r → r.toRule.matchesRequest q offset = true →
        (∀ k : Fin Config.fallbackSlots, k < n → ∀ r', s.fallback.slots[k] = some r' →
          r'.toRule.matchesRequest q offset = false) →
        s.verdict q offset = ⟨.fallback, some n.val, if r.action = .pass then .pass else .refuse, r.logLevel,
          s.fallback.responseTimeout⟩)
      ∧ ((∀ (k : Fin Config.fallbackSlots) r', s.fallback.slots[k] = some r' →
          r'.toRule.matchesRequest q offset = false) →
        s.verdict q offset = ⟨.fallback, none, MissDecision s.fallback.missAction q, .none,
          s.fallback.responseTimeout⟩))

/-! ### Answers from the node side -/

/-- A RESPONSE answers the IN_FLIGHT entry with its station, tag and node, status and data as received, with a COMPLETED
record at level PAIR (R11, R20). That at most one entry matches is the law of R3, taken as a premise. -/
def Obligations.ResponseAnswersEntry : Prop :=
  ∀ (r : Response) (i : EntryIndex) (x : Txn) (d : Nat) (s : State), FrameReaches .node s → TagLaw s →
    s.entryState i = .inFlight x d →
    x.request.station = r.station → x.request.tag = r.tag → x.request.node = r.node →
    let records := if x.logLevel = .pair then
      [txnRecord .completed x (some (.nodeStatus r.status)) (r.data.take 8)] else []
    ∃ t, exec (.responseArrival r) s = .next t ∧ FrameTaken .node s t
      ∧ GivenAnswer i (s.generation i) x (.node r.status r.detail r.data) s t
      ∧ t.log = logAfterAll s.epoch s.log records
      ∧ SameBut (frameParts .node ++ answerParts i (.node r.status r.detail r.data) ++ loggingParts records) s t

/-- A RESPONSE that matches no IN_FLIGHT entry is a stray: it is counted, sets STRAY_RESPONSE, is logged when the setting
is on, and touches no entry (R13). -/
def Obligations.StrayResponse : Prop :=
  ∀ (r : Response) (s : State), FrameReaches .node s →
    (∀ i x d, s.entryState i = .inFlight x d →
      ¬ (x.request.station = r.station ∧ x.request.tag = r.tag ∧ x.request.node = r.node)) →
    let record : RecordBody := ⟨.stray, some ⟨r.station, r.node, r.tag⟩, none,
      if s.control.mode = .governed then .active s.commit.generation else .fallback, none, none, none, false,
      some (.nodeStatus r.status), r.data.take 8⟩
    let records := if s.log.strayLogging then [record] else []
    ∃ t, exec (.responseArrival r) s = .next t ∧ FrameTaken .node s t
      ∧ t.count .strays = s.count .strays + 1
      ∧ t.events.isSet .strayResponse = true
      ∧ t.log = logAfterAll s.epoch s.log records
      ∧ SameBut (frameParts .node ++ [.counter .strays] ++ statusParts .strayResponse ++ loggingParts records) s t

/-- A response deadline that expires answers its IN_FLIGHT entry NO_RESPONSE and sets RESPONSE_TIMEOUT (R15, R20). -/
def Obligations.ResponseDeadlineExpires : Prop :=
  ∀ (i : EntryIndex) (x : Txn) (d : Nat) (s : State), s.heldInReset = false → s.entryState i = .inFlight x d →
      let records := if x.logLevel = .pair then [txnRecord .timedOut x (some (.refusal .noResponse)) []] else []
      ∃ t, exec (.responseDeadlineExpiry i) s = .next t
        ∧ GivenAnswer i (s.generation i) x (.refusal .noResponse) s t
        ∧ t.events.isSet .responseTimeout = true
        ∧ t.log = logAfterAll s.epoch s.log records
        ∧ SameBut (answerParts i (.refusal .noResponse) ++ statusParts .responseTimeout ++ loggingParts records) s t

/-- The frame sent downstream is the request as the station sent it, with a fresh check sequence; when its transmission
completes the entry leaves the queue, is IN_FLIGHT, and its deadline is that moment plus its own response timeout (R10). -/
def Obligations.NodeTransmissionCompletes : Prop :=
  ∀ (i : EntryIndex) (rest : List EntryIndex) (x : Txn) (s : State), s.heldInReset = false →
    s.nPort.busy = true → s.nPort.queue = i :: rest → s.entryState i = .queued x →
    s.nLine = .frame (frameBytes 0x01 x.request.node x.request.station x.request.tag (requestBytes x.request))
    ∧ ∃ t, exec .nodeTransmitComplete s = .next t
      ∧ t.table[i] = ⟨s.generation i, .inFlight x (s.now + 1000 * x.responseTimeout)⟩
      ∧ t.nPort.queue = rest ∧ t.nPort.busy = (s.nPort.link.isUp && !rest.isEmpty)
      ∧ SameBut [.entry i, .nodeQueue, .nodeTransmission] s t

/-! ### The Station Port -/

/-- The frame under transmission at the S-port (R5, R9, R12, R118, R186, R188), and its completion: the frame leaves its
queue, and its owner acts (R17, R174, R186). The reset that an awaited RESET_PART reply brings is stated apart. That an
answer sent is not counted as discarded, where R176 disagrees with itself, is the model's reading (log 23). -/
def Obligations.StationTransmissionCompletes : Prop :=
  ∀ s : State, s.heldInReset = false →
    let own := s.control.ownAddress
    (∀ part r rest, s.sPort.sending = some (.reply part) → s.sPort.replies = r :: rest →
      let lastPart := r.payload.length ≤ 67 * (part + 1)
      s.sLine = .frame (frameBytes 0x04 r.destination own r.tag ([r.code] ++ bytesOf16 r.sequence
          ++ [r.result.code, BitVec.ofNat 8 (part % 4) + (if lastPart then 0x80 else 0)]
          ++ (r.payload.drop (67 * part)).take 67))
      ∧ (¬ lastPart → ∃ t, exec .sPortTransmitComplete s = .next t ∧ t.sPort.sending = some (.reply (part + 1))
          ∧ SameBut [.stationTransmission] s t)
      ∧ (lastPart → ¬ (s.session.resetAwaited = true ∧ r.code = 0x05 ∧ r.result = .done) →
        ∃ t, exec .sPortTransmitComplete s = .next t ∧ t.sPort.replies = rest
          ∧ SameBut [.replies, .stationTransmission] s t))
    ∧ (s.sPort.sending = some .notice →
        (∀ n, s.sPort.slot = some n → s.sLine = .frame (frameBytes 0x05 n.destination own n.number
          ([n.number] ++ bytesOf16 (n.events.setWidth 16) ++ bigEndian 1 n.holds ++ bigEndian 2 n.fill
            ++ [n.mode.code, n.commit.code])))
        ∧ ∃ t, exec .sPortTransmitComplete s = .next t ∧ t.sPort.slot = none
          ∧ SameBut [.slot, .stationTransmission] s t)
    ∧ (∀ i rest, s.sPort.sending = some .answer → s.sPort.returns = i :: rest →
        (∀ x c, s.entryState i = .returning x (.refusal c) → s.sLine = .frame (frameBytes 0x02 x.request.station own
          x.request.tag [0x02, c.code]))
        ∧ (∀ x status detail data, s.entryState i = .returning x (.node status detail data) →
          s.sLine = .frame (frameBytes 0x02 x.request.station x.request.node x.request.tag
            (statusCode status :: detail :: data)))
        ∧ ∃ t, exec .sPortTransmitComplete s = .next t ∧ t.sPort.returns = rest
          ∧ t.table[i] = ⟨s.generation i, .free⟩ ∧ SameBut [.returns, .entry i, .stationTransmission] s t)
    ∧ (∀ r rest, s.sPort.sending = some .refusal → s.sPort.refusals = r :: rest →
        s.sLine = .frame (frameBytes 0x02 r.station own r.tag [0x02, r.cause.code])
        ∧ ∃ t, exec .sPortTransmitComplete s = .next t ∧ t.sPort.refusals = rest
          ∧ SameBut [.refusals, .stationTransmission] s t)

/-- The S-port leaves UP: its queues are emptied, every RETURNING entry is freed and counted, dropped refusals are
counted, and LINK_CHANGE is set. The notice sender is not told of the emptied slot: it changes only by a notice that
LINK_CHANGE makes, with the content of that moment (R18, R117, R119, R169, R175; the moment is log 11). -/
def Obligations.StationPortLeavesUp : Prop :=
  ∀ s : State, FrameReaches .station s → s.session.resetAwaited = false →
    ∃ t, exec (.lossOfSignal .station) s = .next t
      ∧ t.sPort.link = .down ∧ t.sPort.replies = [] ∧ t.sPort.returns = [] ∧ t.sPort.refusals = []
      ∧ t.sPort.sending = none
      ∧ (s.session.current = none → t.notice = s.notice ∧ t.sPort.slot = none)
      ∧ (∀ o, s.session.current = some o → NoticeEvaluated o.owner { s with
          events := t.events
          sPort := { s.sPort with slot := none, sending := none } } t)
      ∧ (∀ i : EntryIndex, t.table[i] = (match s.entryState i with
          | .returning _ _ => ⟨s.generation i, .free⟩
          | .free => s.table[i]
          | .held _ _ => s.table[i]
          | .queued _ => s.table[i]
          | .inFlight _ _ => s.table[i]))
      ∧ t.count .answersDiscarded = s.count .answersDiscarded
          + BitVec.ofNat 32 (entryIndices.countP fun i => (s.entryState i).isReturning)
      ∧ t.count .refusalsDropped = s.count .refusalsDropped + BitVec.ofNat 32 s.sPort.refusals.length
      ∧ t.events.isSet .linkChange = true
      ∧ SameBut ([.link .station, .replies, .returns, .refusals, .stationTransmission,
          .counter .answersDiscarded, .counter .refusalsDropped] ++ statusParts .linkChange
          ++ entryIndices.map .entry) s t

/-- The N-port leaves UP: every QUEUED entry in queue order, then every IN_FLIGHT entry in index order, is answered
LINK_DOWN; HELD and RETURNING entries are not touched; LINK_CHANGE is set (R16, R178). That the queue holds exactly the
QUEUED entries is the law of R177, taken as a premise. -/
def Obligations.NodePortLeavesUp : Prop :=
  ∀ s : State, FrameReaches .node s → QueueLaw s →
    let inFlight := entryIndices.filter fun i => (s.entryState i).isInFlight
    let lost := s.nPort.queue ++ inFlight
    let answered := fun i => ∃ x, s.entryState i = .queued x ∨ ∃ d, s.entryState i = .inFlight x d
    ∃ t, exec (.lossOfSignal .node) s = .next t
      ∧ t.nPort = ⟨.down, [], false⟩
      ∧ (∀ i x, (s.entryState i = .queued x ∨ ∃ d, s.entryState i = .inFlight x d) →
          t.table[i] = ⟨s.generation i, if s.sPort.link.isUp then .returning x (.refusal .linkDown) else .free⟩)
      ∧ (∀ i : EntryIndex, ¬ answered i → t.table[i] = s.table[i])
      ∧ t.sPort.returns = (if s.sPort.link.isUp then s.sPort.returns ++ lost else s.sPort.returns)
      ∧ t.count (.refusals .linkDown) = s.count (.refusals .linkDown) + BitVec.ofNat 32 lost.length
      ∧ t.count .answersDiscarded = (if s.sPort.link.isUp then s.count .answersDiscarded
          else s.count .answersDiscarded + BitVec.ofNat 32 lost.length)
      ∧ t.log = logAfterAll s.epoch s.log (lost.flatMap (linkDownRecords s))
      ∧ t.events.isSet .linkChange = true
      ∧ SameBut ([.link .node, .nodeQueue, .nodeTransmission, .returns, .counter (.refusals .linkDown),
          .counter .answersDiscarded] ++ statusParts .linkChange ++ loggingParts (lost.flatMap (linkDownRecords s))
          ++ lost.map .entry) s t

/-! ### Holds -/

/-- RELEASE and DENY of a held request that the reference names: it leaves the hold queue, its hold record is written, and
it is forwarded or answered HOLD_DENIED (R50, R53, R54, R55, R60). That RELEASE reports the state reached in one byte is the
model's reading (log 13). -/
def Obligations.HeldRequestIsReleasedOrDenied : Prop :=
  ∀ (h : CommandHeader) (o : OpenSession) (i : EntryIndex) (g : Byte) (x : Txn) (hold : Hold) (s : State),
    NewCommand h o s → s.entryState i = .held x hold → s.generation i = g →
    let ref : List Byte := [BitVec.ofNat 8 i.val, g]
    let left := s.holdQueue.filter fun r => r.index ≠ i
    let released := holdRecord .released x none false :: forwardRecords x s
    let denied := [holdRecord .denied x (some .holdDenied) false]
    (∃ t, exec (.release h ref) s = .next t
      ∧ Answers 0x39 h o .done (ref ++ [if s.nPort.link.isUp then 2 else 4])
          ([.holdQueue] ++ statusParts .holdWaiting ++ forwardParts i s ++ loggingParts released) s t
      ∧ Forwarded i g x s t ∧ t.holdQueue = left ∧ t.events.isSet .holdWaiting = !left.isEmpty
      ∧ t.log = logAfterAll s.epoch s.log released)
    ∧ (∃ t, exec (.deny h ref) s = .next t
      ∧ Answers 0x3A h o .done ref
          ([.holdQueue] ++ statusParts .holdWaiting ++ answerParts i (.refusal .holdDenied) ++ loggingParts denied) s t
      ∧ GivenAnswer i g x (.refusal .holdDenied) s t ∧ t.holdQueue = left
      ∧ t.events.isSet .holdWaiting = !left.isEmpty ∧ t.log = logAfterAll s.epoch s.log denied)

/-- RELEASE and DENY with a reference that names no waiting request change nothing and are answered NOT_HELD with the
entry's state and generation; an index above 31 is BAD_FIELD (R53). -/
def Obligations.StaleReferenceIsNotHeld : Prop :=
  ∀ (h : CommandHeader) (o : OpenSession) (b g : Byte) (s : State), NewCommand h o s →
    ∀ code row, (code = 0x39 ∧ row = Instr.release h [b, g] ∨ code = 0x3A ∧ row = Instr.deny h [b, g]) →
    (∀ i : EntryIndex, i.val = b.toNat → ¬ (s.generation i = g ∧ ∃ x hold, s.entryState i = .held x hold) →
      ∃ t, exec row s = .next t
        ∧ Answers code h o .notHeld [b, g, (s.entryState i).code, s.generation i] [] s t)
    ∧ (32 ≤ b.toNat → ∃ t, exec row s = .next t ∧ Answers code h o .badField [1, 0] [] s t)

/-- A hold deadline that expires resolves its entry by its default and sets HOLD_EXPIRED (R57, R60). -/
def Obligations.HoldDeadlineExpires : Prop :=
  ∀ (i : EntryIndex) (x : Txn) (hold : Hold) (s : State), s.heldInReset = false → s.entryState i = .held x hold →
      let left := s.holdQueue.filter fun r => r.index ≠ i
      let passed := holdRecord .holdExpired x none false :: forwardRecords x s
      let refused := [holdRecord .holdExpired x (some .holdExpired) false]
      let changed := [.holdQueue] ++ statusParts .holdWaiting ++ statusParts .holdExpired
      (hold.default = .pass → ∃ t, exec (.holdDeadlineExpiry i) s = .next t
        ∧ Forwarded i (s.generation i) x s t ∧ t.holdQueue = left
        ∧ t.events.isSet .holdExpired = true ∧ t.events.isSet .holdWaiting = !left.isEmpty
        ∧ t.log = logAfterAll s.epoch s.log passed
        ∧ SameBut (changed ++ forwardParts i s ++ loggingParts passed) s t)
      ∧ (hold.default = .refuse → ∃ t, exec (.holdDeadlineExpiry i) s = .next t
        ∧ GivenAnswer i (s.generation i) x (.refusal .holdExpired) s t ∧ t.holdQueue = left
        ∧ t.events.isSet .holdExpired = true ∧ t.events.isSet .holdWaiting = !left.isEmpty
        ∧ t.log = logAfterAll s.epoch s.log refused
        ∧ SameBut (changed ++ answerParts i (.refusal .holdExpired) ++ loggingParts refused) s t)

/-- LIST_HOLDS describes the held entries from a position of the hold queue on, in queue order, 24 bytes each, and
changes nothing (R51, R52, R189). -/
def Obligations.ListHoldsReportsTheQueue : Prop :=
  ∀ (h : CommandHeader) (o : OpenSession) (first count : Byte) (s : State), NewCommand h o s →
    (15 < first.toNat → ∃ t, exec (.listHolds h [first, count]) s = .next t ∧ Answers 0x38 h o .badField [1, 0] [] s t)
    ∧ (first.toNat ≤ 15 → count.toNat = 0 ∨ 8 < count.toNat →
        ∃ t, exec (.listHolds h [first, count]) s = .next t ∧ Answers 0x38 h o .badField [2, 0] [] s t)
    ∧ (∀ refs : List HoldRef, first.toNat ≤ 15 → 1 ≤ count.toNat → count.toNat ≤ 8 →
        refs = (s.holdQueue.drop first.toNat).take count.toNat →
        (∀ r ∈ refs, ∃ x hold, s.entryState r.index = .held x hold) →
        ∃ t, exec (.listHolds h [first, count]) s = .next t
          ∧ Answers 0x38 h o .done
              ([BitVec.ofNat 8 s.holdQueue.length, first, BitVec.ofNat 8 refs.length] ++ refs.flatMap (heldItem s)) [] s t)

/-! ### Epochs, meters and commits -/

/-- A boundary moves the epoch on, resets every consumed count and keeps the exceed counts; with a commit pending it also
applies it: the shadow bank becomes the active bank under the next generation, which is counted, reported and logged
(R66, R75, R76, R80, R87, R93). -/
def Obligations.BoundaryAppliesPendingCommit : Prop :=
  ∀ s : State, s.heldInReset = false →
    (s.commit.state = .idle → ∃ t, exec .epochBoundary s = .next t ∧ PlainBoundary s t ∧ SameBut boundaryParts s t)
    ∧ (s.commit.state = .pending →
      let g : Half := if s.commit.generation = 0xFFFF then 1 else s.commit.generation + 1
      let record : RecordBody := ⟨.commitApplied, none, none, .active g, none, none, none, false, none, []⟩
      ∃ t, exec .epochBoundary s = .next t ∧ PlainBoundary s t
        ∧ t.active = s.shadow ∧ t.commit = ⟨.idle, g⟩
        ∧ t.count .commitsApplied = s.count .commitsApplied + 1
        ∧ t.events.isSet .commitApplied = true
        ∧ t.log = logAfterAll t.epoch s.log [record]
        ∧ SameBut (boundaryParts ++ [.active, .commit, .counter .commitsApplied] ++ statusParts .commitApplied
            ++ recordParts) s t)

/-- A SYNC_IN edge does what the sync mode says, and a high-to-low transition nothing (R71). -/
def Obligations.SyncEdgeByMode : Prop :=
  ∀ s : State, s.heldInReset = false →
    let captured : State := { s with epoch := { s.epoch with capture := some ⟨s.epoch.number, s.epoch.offset⟩ } }
    (∃ t, exec (.syncInEdge .highToLow) s = .next t ∧ SameBut [] s t)
    ∧ (s.epoch.sync = .off → ∃ t, exec (.syncInEdge .lowToHigh) s = .next t ∧ SameBut [] s t)
    ∧ (s.epoch.sync = .capture → ∃ t, exec (.syncInEdge .lowToHigh) s = .next t
        ∧ t.epoch = captured.epoch ∧ SameBut [.epoch] s t)
    ∧ (s.epoch.sync = .restart → exec (.syncInEdge .lowToHigh) s = exec .epochBoundary captured)

/-- The commands that set one thing after checking it: SET_SYNC, SET_NOTICE_RETRY, SET_LIVENESS, ALIGN_EPOCH and SET_LOG
(R69, R70, R105, R124, R155). The model's readings: the retry interval and the liveness period are one byte each in their
replies (log 13), and SET_LIVENESS reports the timer's state before the reload (log 14). -/
def Obligations.SettingCommands : Prop :=
  ∀ (h : CommandHeader) (o : OpenSession) (s : State), NewCommand h o s →
    (∀ m : SyncMode, ∃ t, exec (.setSync h [m.code]) s = .next t ∧ Answers 0x43 h o .done [m.code] [.epoch] s t
      ∧ t.epoch = { s.epoch with sync := m })
    ∧ (∀ b : Byte, 2 < b.toNat → ∃ t, exec (.setSync h [b]) s = .next t ∧ Answers 0x43 h o .badField [1, 0] [] s t)
    ∧ (∀ b : Byte, 2 ≤ b.toNat → ∃ t, exec (.setNoticeRetry h [b]) s = .next t
      ∧ Answers 0x13 h o .done [b] [.noticeSender] s t ∧ t.notice = { s.notice with interval := b.toNat })
    ∧ (∀ b : Byte, b.toNat < 2 → ∃ t, exec (.setNoticeRetry h [b]) s = .next t
      ∧ Answers 0x13 h o .badField [1, 0] [] s t)
    ∧ (∀ b : Byte, b ≠ 0 → ∃ t, exec (.setLiveness h [b]) s = .next t
      ∧ Answers 0x18 h o .done [b, s.control.liveness.code] [.period] s t ∧ t.control.period = b.toNat)
    ∧ (∃ t, exec (.setLiveness h [0]) s = .next t ∧ Answers 0x18 h o .badField [1, 0] [] s t)
    ∧ (∀ a b c : Byte, let offset := a.toNat * 65536 + b.toNat * 256 + c.toNat
      (offset < s.epochLength → ∃ t, exec (.alignEpoch h [a, b, c]) s = .next t
        ∧ Answers 0x42 h o .done (bigEndian 4 s.epoch.number.toNat ++ [a, b, c]) [.epoch] s t
        ∧ t.epoch = { s.epoch with offset := offset })
      ∧ (s.epochLength ≤ offset → ∃ t, exec (.alignEpoch h [a, b, c]) s = .next t
        ∧ Answers 0x42 h o .badField [1, 0] [] s t))
    ∧ (∀ (mode : LogMode) (hi lo : Byte) (refusals strays : Bool), let threshold := hi.toNat * 256 + lo.toNat
      1 ≤ threshold → threshold ≤ 256 →
      ∃ t, exec (.setLog h [mode.code, hi, lo, boolCode refusals, boolCode strays]) s = .next t
        ∧ Answers 0x49 h o .done ([mode.code, hi, lo, boolCode refusals, boolCode strays]
            ++ bigEndian 2 s.log.records.length ++ bigEndian 4 s.log.lostCount.toNat) [.log] s t
        ∧ t.log = { s.log with
            mode := mode, threshold := threshold, refusalLogging := refusals, strayLogging := strays })
    ∧ (∀ (m hi lo a b place : Byte), let threshold := hi.toNat * 256 + lo.toNat
      (1 < m.toNat ∧ place = 1)
        ∨ (m.toNat ≤ 1 ∧ (threshold = 0 ∨ 256 < threshold) ∧ place = 2)
        ∨ (m.toNat ≤ 1 ∧ 1 ≤ threshold ∧ threshold ≤ 256 ∧ 1 < a.toNat ∧ place = 3)
        ∨ (m.toNat ≤ 1 ∧ 1 ≤ threshold ∧ threshold ≤ 256 ∧ a.toNat ≤ 1 ∧ 1 < b.toNat ∧ place = 4) →
      ∃ t, exec (.setLog h [m, hi, lo, a, b]) s = .next t ∧ Answers 0x49 h o .badField [place, 0] [] s t)

/-- READ_METERS, READ_LOG and READ_COUNTERS report and then clear what they say they clear, each log record in the
35 bytes of R190 (R77, R106, R180, R190). That READ_COUNTERS finds its own frame already counted is the model's reading
(log 10). -/
def Obligations.ReadAndClearCommands : Prop :=
  ∀ (h : CommandHeader) (o : OpenSession) (s : State), NewCommand h o s →
    (∀ (first count : Byte) (clear : Bool), first.toNat ≤ 15 → 1 ≤ count.toNat → count.toNat ≤ 6 →
      let reported := fun m : Fin Config.meters => first.toNat ≤ m.val ∧ m.val < first.toNat + count.toNat
      let ms := (List.finRange Config.meters).filter fun m => decide (reported m)
      ∃ t, exec (.readMeters h [first, count, boolCode clear]) s = .next t
        ∧ Answers 0x40 h o .done (bigEndian 2 s.commit.generation.toNat ++ bigEndian 4 s.epoch.number.toNat
            ++ bigEndian 3 s.epoch.offset ++ ms.flatMap (meterReport s)) (ms.map .meter) s t
        ∧ ∀ m, reported m → t.meters[m] = if clear then ⟨s.meters[m].consumed, 0⟩ else s.meters[m])
    ∧ (∀ first count clear place : Byte,
      (15 < first.toNat ∧ place = 1)
        ∨ (first.toNat ≤ 15 ∧ (count.toNat = 0 ∨ 6 < count.toNat) ∧ place = 2)
        ∨ (first.toNat ≤ 15 ∧ 1 ≤ count.toNat ∧ count.toNat ≤ 6 ∧ 1 < clear.toNat ∧ place = 3) →
      ∃ t, exec (.readMeters h [first, count, clear]) s = .next t ∧ Answers 0x40 h o .badField [place, 0] [] s t)
    ∧ (∀ n : Byte, 1 ≤ n.toNat → n.toNat ≤ 6 →
      let drained := s.log.records.take n.toNat
      let left := s.log.records.drop n.toNat
      ∃ t, ∃ layout : LogRecord → List Byte, exec (.readLog h [n]) s = .next t
        ∧ (∀ r ∈ drained, RecordLaidOut r (layout r))
        ∧ Answers 0x48 h o .done (bigEndian 1 drained.length ++ bigEndian 2 left.length
            ++ bigEndian 4 s.log.lostCount.toNat ++ drained.flatMap layout) [.log] s t
        ∧ t.log = { s.log with records := left, lostCount := 0 })
    ∧ (∀ n : Byte, n.toNat = 0 ∨ 6 < n.toNat →
      ∃ t, exec (.readLog h [n]) s = .next t ∧ Answers 0x48 h o .badField [1, 0] [] s t)
    ∧ (∀ clear : Bool, let group := s.counters.nextGroup
      let taken := fun c => if c = .framesAccepted .station then s.count c + 1 else s.count c
      let payload := group.code :: (groupCounters group).flatMap fun c => bigEndian 4 (taken c).toNat
      let reply : Reply := ⟨h.source, h.tag, 0x4A, h.sequence, .done, payload⟩
      ∃ t, exec (.readCounters h [boolCode clear]) s = .next t
        ∧ t.sPort.replies = s.sPort.replies ++ [reply] ∧ t.link .station = .up none
        ∧ t.session.current = some { o with
            expected := if o.expected = 0xFFFF then 1 else o.expected + 1, last := some ⟨h.sequence, reply⟩ }
        ∧ t.control.liveness = .running (s.now + 100000 * s.control.period)
        ∧ t.counters.nextGroup = (if group = .traffic then .outcomes else .traffic)
        ∧ (∀ c, t.count c = if clear ∧ c ∈ groupCounters group then 0 else taken c)
        ∧ SameBut ([.link .station, .replies, .session, .liveness, .nextGroup]
            ++ (groupCounters .traffic ++ groupCounters .outcomes).map .counter) s t)
    ∧ (∀ b : Byte, 1 < b.toNat →
      ∃ t, exec (.readCounters h [b]) s = .next t ∧ Answers 0x4A h o .badField [1, 0] [] s t)

/-- COMMIT by its tests in order, and ABORT_COMMIT by the commit state (R81, R83, R85). -/
def Obligations.CommitAndAbort : Prop :=
  ∀ (h : CommandHeader) (o : OpenSession) (s : State), NewCommand h o s →
    let g := s.commit.generation
    let next : Half := if g = 0xFFFF then 1 else g + 1
    (s.control.mode = .fallback →
      ∃ t, exec (.commit h []) s = .next t ∧ Answers 0x30 h o .inFallback [] [] s t)
    ∧ (s.control.mode = .governed → s.commit.state = .pending →
      ∃ t, exec (.commit h []) s = .next t ∧ Answers 0x30 h o .commitPending [] [] s t)
    ∧ (s.control.mode = .governed → s.commit.state = .idle → s.shadow.WindowsFit →
      ∃ t, exec (.commit h []) s = .next t
        ∧ Answers 0x30 h o .accepted (bytesOf16 g ++ bytesOf16 next ++ bigEndian 4 s.epoch.number.toNat
            ++ bigEndian 3 s.epoch.offset ++ bigEndian 3 s.epochLength) [.commit] s t
        ∧ t.commit = ⟨.pending, g⟩)
    ∧ (∀ (n : Fin Config.bankSlots) r w, s.control.mode = .governed → s.commit.state = .idle →
      s.shadow.slots[n] = some r → r.window = some w →
      (∀ k : Fin Config.bankSlots, k < n → ∀ r' w', s.shadow.slots[k] = some r' → r'.window = some w' →
        w'.openOffset < s.shadow.params.epochLength ∧ w'.closeOffset < s.shadow.params.epochLength) →
      (s.shadow.params.epochLength ≤ w.openOffset →
        ∃ t, exec (.commit h []) s = .next t ∧ Answers 0x30 h o .commitRejected
          ([BitVec.ofNat 8 n.val, 1] ++ bigEndian 3 w.openOffset ++ bigEndian 3 s.shadow.params.epochLength) [] s t)
      ∧ (w.openOffset < s.shadow.params.epochLength → s.shadow.params.epochLength ≤ w.closeOffset →
        ∃ t, exec (.commit h []) s = .next t ∧ Answers 0x30 h o .commitRejected
          ([BitVec.ofNat 8 n.val, 2] ++ bigEndian 3 w.closeOffset ++ bigEndian 3 s.shadow.params.epochLength) [] s t))
    ∧ (s.commit.state = .pending → ∃ t, exec (.abortCommit h []) s = .next t
      ∧ Answers 0x31 h o .done (bytesOf16 g ++ [0]) [.commit] s t ∧ t.commit = ⟨.idle, g⟩)
    ∧ (s.commit.state = .idle → ∃ t, exec (.abortCommit h []) s = .next t
      ∧ Answers 0x31 h o .nothingPending (bytesOf16 g ++ [0]) [] s t)

/-- The Capture Log takes a record: numbered, stamped, appended, displacing or lost by its mode; a loss is counted and sets
LOG_LOSS, and the append that reaches the threshold sets LOG_THRESHOLD (R99, R100, R101, R102, R103). -/
def Obligations.LogTakesRecord : Prop :=
  ∀ (b : RecordBody) (s : State),
    let t := s.logRecord b
    let record : LogRecord := ⟨s.log.nextSequence, s.epoch.number, s.epoch.offset, b⟩
    t.log.nextSequence = s.log.nextSequence + 1
    ∧ (s.log.records.length < 256 →
        t.log.records = s.log.records ++ [record] ∧ t.log.lostCount = s.log.lostCount
        ∧ t.count .logRecordsLost = s.count .logRecordsLost
        ∧ t.events.isSet .logLoss = s.events.isSet .logLoss
        ∧ t.events.isSet .logThreshold
            = (s.events.isSet .logThreshold || decide (s.log.records.length + 1 = s.log.threshold)))
    ∧ (256 ≤ s.log.records.length →
        t.log.records = (if s.log.mode = .wrap then s.log.records.tail ++ [record] else s.log.records)
        ∧ t.log.lostCount = s.log.lostCount + 1
        ∧ t.count .logRecordsLost = s.count .logRecordsLost + 1
        ∧ t.events.isSet .logLoss = true
        ∧ t.events.isSet .logThreshold = s.events.isSet .logThreshold)
    ∧ t.log.mode = s.log.mode ∧ t.log.threshold = s.log.threshold
    ∧ t.log.refusalLogging = s.log.refusalLogging ∧ t.log.strayLogging = s.log.strayLogging
    ∧ SameBut recordParts s t

/-! ### Commands that only read -/

/-- KEEPALIVE, GET_STATUS, GET_TIME, READ_RULE, READ_BANK_PARAMS and READ_FALLBACK report and change nothing but what
every new command changes (R40, R43, R72, R116, R144; item widths the manual leaves open are log 13). -/
def Obligations.ReadOnlyCommands : Prop :=
  ∀ (h : CommandHeader) (o : OpenSession) (s : State), NewCommand h o s →
    let commitItems := bytesOf16 s.commit.generation ++ [s.commit.state.code]
    (∃ t, exec (.keepalive h []) s = .next t ∧ Answers 0x04 h o .done [] [] s t)
    ∧ (∃ t, exec (.getStatus h []) s = .next t
      ∧ Answers 0x06 h o .done
        (bytesOf16 (s.events.status.setWidth 16) ++ bytesOf16 (s.events.enable.setWidth 16)
          ++ bytesOf16 (s.events.line.setWidth 16)
          ++ [if s.events.status &&& s.events.enable &&& s.events.line = 0 then 0 else 1]
          ++ [s.notice.state.code, s.notice.number, BitVec.ofNat 8 s.notice.interval]
          ++ [1] ++ ownerItem (some o) ++ bytesOf16 s.session.number
          ++ [s.control.liveness.code, BitVec.ofNat 8 s.control.period, s.control.mode.code]
          ++ fallbackRecordReport s.control.fallbackRecord ++ commitItems
          ++ [BitVec.ofNat 8 s.holdQueue.length] ++ bigEndian 2 s.log.records.length
          ++ [s.resetCause.cause.code, BitVec.ofNat 8 s.resetCause.discarded]) [] s t)
    ∧ (∃ t, exec (.getTime h []) s = .next t
      ∧ Answers 0x41 h o .done (bigEndian 4 s.epoch.number.toNat ++ bigEndian 3 s.epoch.offset
          ++ bigEndian 3 s.epochLength ++ [s.epoch.sync.code]
          ++ (match s.epoch.capture with
              | none => [0, 0, 0, 0, 0, 0, 0, 0]
              | some c => 1 :: bigEndian 4 c.epoch.toNat ++ bigEndian 3 c.offset)) [] s t)
    ∧ (∀ (b : BankName) (n : Fin Config.bankSlots),
      let bank := if b = .active then s.active else s.shadow
      ∃ t, exec (.readRule h [b.code, BitVec.ofNat 8 n.val]) s = .next t
        ∧ Answers 0x25 h o .done ([b.code, BitVec.ofNat 8 n.val]
            ++ (match bank.slots[n] with
                | none => 1 :: List.replicate 25 0
                | some r => 0 :: ruleBytes r) ++ commitItems) [] s t)
    ∧ (∀ b n : Byte, (1 < b.toNat → ∃ t, exec (.readRule h [b, n]) s = .next t ∧ Answers 0x25 h o .badField [1, 0] [] s t)
      ∧ (b.toNat ≤ 1 → 127 < n.toNat → ∃ t, exec (.readRule h [b, n]) s = .next t
        ∧ Answers 0x25 h o .badField [2, 0] [] s t))
    ∧ (∀ b : BankName, let p := (if b = .active then s.active else s.shadow).params
      ∃ t, exec (.readBankParams h [b.code]) s = .next t
        ∧ Answers 0x26 h o .done ([p.missAction.code, boolCode p.missLogging] ++ bigEndian 1 p.responseTimeout
            ++ bigEndian 3 p.epochLength
            ++ ((List.finRange Config.meters).flatMap fun m => bytesOf16 p.meters[m].budget ++ [p.meters[m].exceed.code])
            ++ commitItems) [] s t)
    ∧ (∀ b : Byte, 1 < b.toNat → ∃ t, exec (.readBankParams h [b]) s = .next t ∧ Answers 0x26 h o .badField [1, 0] [] s t)
    ∧ (∀ n : Fin Config.fallbackSlots, ∃ t, exec (.readFallback h [BitVec.ofNat 8 n.val]) s = .next t
      ∧ Answers 0x2B h o .done ([s.fallback.missAction.code] ++ bigEndian 1 s.fallback.responseTimeout
          ++ [BitVec.ofNat 8 n.val]
          ++ (match s.fallback.slots[n] with
              | none => 1 :: List.replicate 25 0
              | some r => 0 :: ruleBytes r.toRule) ++ [s.control.mode.code]) [] s t)
    ∧ (∀ n : Byte, 7 < n.toNat → ∃ t, exec (.readFallback h [n]) s = .next t ∧ Answers 0x2B h o .badField [1, 0] [] s t)

/-! ### Events and notices -/

/-- CLEAR_EVENTS clears the sticky statuses it names and leaves HOLD_WAITING; SET_EVENTS writes the enables and routes of
all but the two fixed kinds and has the notice condition evaluated (R111, R113, R114). -/
def Obligations.EventCommands : Prop :=
  ∀ (h : CommandHeader) (o : OpenSession) (hi lo : Byte) (s : State), NewCommand h o s →
    (hi.toNat < 32 → ∃ t, exec (.clearEvents h [hi, lo]) s = .next t
      ∧ Answers 0x10 h o .done (bytesOf16 (t.events.status.setWidth 16))
          ((allEventKinds.filter (· ≠ .holdWaiting)).map .status) s t
      ∧ ∀ k : EventKind, t.events.isSet k = if k = .holdWaiting then s.events.isSet k
          else s.events.isSet k && !(hi ++ lo).getLsbD k.bit)
    ∧ (32 ≤ hi.toNat → ∃ t, exec (.clearEvents h [hi, lo]) s = .next t ∧ Answers 0x10 h o .badField [1, 0] [] s t)
    ∧ (∀ hj lj : Byte, hi.toNat < 32 → hj.toNat < 32 →
      ∃ t, exec (.setEvents h [hi, lo, hj, lj]) s = .next t
        ∧ Answers 0x11 h o .done (bytesOf16 (t.events.enable.setWidth 16) ++ bytesOf16 (t.events.line.setWidth 16))
            (.eventSettings :: noticeParts) s t
        ∧ (∀ k : EventKind, t.events.enable.getLsbD k.bit
              = (decide (k = .livenessWarning ∨ k = .fallbackEntered) || (hi ++ lo).getLsbD k.bit)
            ∧ t.events.line.getLsbD k.bit
              = (decide (k = .livenessWarning ∨ k = .fallbackEntered) || (hj ++ lj).getLsbD k.bit))
        ∧ NoticeEvaluated o.owner { s with events := t.events } t)
    ∧ (∀ hj lj : Byte, (32 ≤ hi.toNat → ∃ t, exec (.setEvents h [hi, lo, hj, lj]) s = .next t
        ∧ Answers 0x11 h o .badField [1, 0] [] s t)
      ∧ (hi.toNat < 32 → 32 ≤ hj.toNat → ∃ t, exec (.setEvents h [hi, lo, hj, lj]) s = .next t
        ∧ Answers 0x11 h o .badField [2, 0] [] s t))

/-- ACK_NOTICE with the current number of an unacknowledged notice takes the sender to IDLE, removes a waiting NOTICE, and
has the condition evaluated; any other number is STALE_NOTICE and changes nothing (R121). -/
def Obligations.AckNoticeMatchesNumber : Prop :=
  ∀ (h : CommandHeader) (o : OpenSession) (n : Byte) (s : State), NewCommand h o s →
    (∀ d, s.notice.state = .awaitingAck d → n = s.notice.number →
      ∃ t, exec (.ackNotice h [n]) s = .next t
        ∧ Answers 0x12 h o .done [t.notice.state.code, t.notice.number] noticeParts s t
        ∧ NoticeEvaluated o.owner { s with
            notice := { s.notice with state := .idle }
            sPort := { s.sPort with slot := if s.sPort.sending = some .notice then s.sPort.slot else none } } t)
    ∧ (s.notice.state = .idle ∨ n ≠ s.notice.number →
      ∃ t, exec (.ackNotice h [n]) s = .next t
        ∧ Answers 0x12 h o .staleNotice [s.notice.state.code, s.notice.number] [] s t)

/-- Setting a status makes a notice at once when a session is open, the sender is IDLE and an enabled status routed to
NOTICE is set (R112, R117, R118); the retry timer's expiry sends the notice again under its number (R120). -/
def Obligations.NoticeMadeAndResent : Prop :=
  (∀ (k : EventKind) (s : State),
    (∀ j, (s.setStatus k).events.isSet j = (decide (j = k) || s.events.isSet j))
    ∧ SameBut (statusParts k) s (s.setStatus k)
    ∧ (∀ o, s.session.current = some o →
        NoticeEvaluated o.owner { s with events := (s.setStatus k).events } (s.setStatus k))
    ∧ (s.session.current = none → SameBut [.status k] s (s.setStatus k)))
  ∧ (∀ (o : OpenSession) (d : Nat) (s : State), s.heldInReset = false → s.session.current = some o →
      s.notice.state = .awaitingAck d →
      ∃ t, exec .noticeRetryExpiry s = .next t
        ∧ t.notice = { s.notice with state := .awaitingAck (s.now + 10000 * s.notice.interval) }
        ∧ (s.sPort.sending ≠ some .notice → t.sPort.slot = some (noticeNow o.owner s.notice.number s))
        ∧ (s.sPort.sending = some .notice → t.sPort.slot = s.sPort.slot)
        ∧ SameBut noticeParts s t)

/-! ### The session -/

/-- PROBE is answered for any station and changes nothing; with a sequence number or arguments it is BAD_FIELD
(R130, R131, R191; the revision's width is log 13). -/
def Obligations.ProbeReportsAndChangesNothing : Prop :=
  ∀ (h : CommandHeader) (args : List Byte) (s : State), CommandReaches s →
    (h.sequence = 0 → args = [] → ∃ t, exec (.probe h args) s = .next t
      ∧ OnlyAnswers 0x01 h .done ([0x54, 0xC1, 0x03, 0x18, 1, s.control.ownAddress, boolCode s.control.strapFault,
          if s.control.start = .opened then 0 else 1, s.control.mode.code, boolCode s.session.current.isSome]
          ++ ownerItem s.session.current ++ bytesOf16 s.session.number) s t)
    ∧ (h.sequence ≠ 0 → ∃ t, exec (.probe h args) s = .next t ∧ OnlyAnswers 0x01 h .badField [255, 0] s t)
    ∧ (h.sequence = 0 → args ≠ [] → ∃ t, exec (.probe h args) s = .next t ∧ OnlyAnswers 0x01 h .badField [0, 0] s t)

/-- OPEN opens a session when none is open, afresh for its owner, or over a WARNED owner; otherwise it is SESSION_BUSY;
with a sequence number or arguments it is BAD_FIELD (R128, R130, R132, R133, R134). -/
def Obligations.OpenOpensOrIsBusy : Prop :=
  ∀ (h : CommandHeader) (args : List Byte) (s : State), CommandReaches s →
    (h.sequence = 0 → args = [] →
      (s.session.current = none ∨ (∃ o, s.session.current = some o ∧ h.source = o.owner)
        ∨ (∃ o d, s.session.current = some o ∧ s.control.liveness = .warned d)) →
      let number : Half := if s.session.number = 0xFFFF then 1 else s.session.number + 1
      ∃ t, exec (.openSession h args) s = .next t ∧ FrameTaken .station s t
        ∧ t.sPort.replies = s.sPort.replies ++ [⟨h.source, h.tag, 0x02, h.sequence, .opened,
            bytesOf16 number ++ [s.control.mode.code, s.commit.state.code]⟩]
        ∧ t.session = ⟨some ⟨h.source, 1, none⟩, number, false⟩
        ∧ t.control.liveness = .running (s.now + 100000 * s.control.period)
        ∧ NoticeEvaluated h.source (if s.session.current = none then s else { s with
            notice := { s.notice with state := .idle }
            sPort := { s.sPort with slot := none, sending := none } }) t
        ∧ SameBut (frameParts .station ++ [.replies, .session, .sessionNumber, .liveness] ++ noticeParts
            ++ (if s.session.current = none ∨ s.sPort.sending ≠ some .notice then [] else [.stationTransmission])) s t)
    ∧ (∀ o, h.sequence = 0 → args = [] → s.session.current = some o → h.source ≠ o.owner →
      (∀ d, s.control.liveness ≠ .warned d) →
      ∃ t, exec (.openSession h args) s = .next t
        ∧ OnlyAnswers 0x02 h .sessionBusy ([1, o.owner] ++ bytesOf16 s.session.number) s t)
    ∧ (h.sequence ≠ 0 → ∃ t, exec (.openSession h args) s = .next t ∧ OnlyAnswers 0x02 h .badField [255, 0] s t)
    ∧ (h.sequence = 0 → args ≠ [] → ∃ t, exec (.openSession h args) s = .next t
        ∧ OnlyAnswers 0x02 h .badField [0, 0] s t)

/-- CLOSE ends the session, disarms the liveness timer and takes the notice sender to IDLE, and its reply is not cached
(R137, R142). -/
def Obligations.CloseEndsTheSession : Prop :=
  ∀ (h : CommandHeader) (o : OpenSession) (s : State), NewCommand h o s →
    ∃ t, exec (.closeSession h []) s = .next t ∧ FrameTaken .station s t
      ∧ t.sPort.replies = s.sPort.replies ++ [⟨h.source, h.tag, 0x03, h.sequence, .done, []⟩]
      ∧ t.session.current = none ∧ t.control.liveness = .disarmed
      ∧ t.notice = { s.notice with state := .idle } ∧ t.sPort.slot = none
      ∧ t.sPort.sending ≠ some .notice
      ∧ SameBut (frameParts .station ++ [.replies, .session, .liveness] ++ noticeParts
          ++ (if s.sPort.sending = some .notice then [.stationTransmission] else [])) s t

/-- The session checks and the sequence check of every command but PROBE and OPEN: NO_SESSION, NOT_OWNER, a duplicate
answered from the reply cache with the timer reloaded, and SEQUENCE_ERROR (R136, R138, R139). -/
def Obligations.SessionAndSequenceChecks : Prop :=
  ∀ (code : Byte) (h : CommandHeader) (args : List Byte) (s : State), CommandReaches s → code ≠ 0x01 → code ≠ 0x02 →
    (s.session.current = none →
      ∃ t, exec (commandRow code h args) s = .next t ∧ OnlyAnswers code h .noSession [] s t)
    ∧ (∀ o, s.session.current = some o → h.source ≠ o.owner →
      ∃ t, exec (commandRow code h args) s = .next t
        ∧ OnlyAnswers code h .notOwner ([1, o.owner] ++ bytesOf16 s.session.number) s t)
    ∧ (∀ o l, s.session.current = some o → h.source = o.owner → h.sequence ≠ o.expected → o.last = some l →
      l.sequence = h.sequence →
      ∃ t, exec (commandRow code h args) s = .next t ∧ FrameTaken .station s t
        ∧ t.sPort.replies = s.sPort.replies ++ [l.reply]
        ∧ t.control.liveness = .running (s.now + 100000 * s.control.period)
        ∧ SameBut (frameParts .station ++ [.replies, .liveness]) s t)
    ∧ (∀ o, s.session.current = some o → h.source = o.owner → h.sequence ≠ o.expected →
      (∀ l, o.last = some l → l.sequence ≠ h.sequence) →
      ∃ t, exec (commandRow code h args) s = .next t ∧ OnlyAnswers code h .sequenceError (bytesOf16 o.expected) s t)

/-- Any COMMAND is discarded by the Agent while a management reset is awaited, and is discarded and counted as an overrun
when the Reply queue holds four replies (R129, R147). That the port has counted the discarded frame as accepted is the
model's reading (log 10). -/
def Obligations.CommandsDiscarded : Prop :=
  ∀ (code : Byte) (h : CommandHeader) (args : List Byte) (s : State), FrameReaches .station s →
    (s.session.resetAwaited = true →
      ∃ t, exec (commandRow code h args) s = .next t ∧ FrameTaken .station s t ∧ SameBut (frameParts .station) s t)
    ∧ (s.session.resetAwaited = false → 4 ≤ s.sPort.replies.length →
      ∃ t, exec (commandRow code h args) s = .next t ∧ FrameTaken .station s t
        ∧ t.count .managementOverruns = s.count .managementOverruns + 1
        ∧ SameBut (.counter .managementOverruns :: frameParts .station) s t)

/-- A new command with an unknown code is BAD_COMMAND; one whose arguments have not the length of its form is BAD_FIELD
naming the arguments; RESET_PART has a management reset awaited (R140, R147, R185). -/
def Obligations.UnknownWrongAndReset : Prop :=
  ∀ (h : CommandHeader) (o : OpenSession) (args : List Byte) (s : State), NewCommand h o s →
    (∀ code, CommandName.ofCode code = none →
      ∃ t, exec (.unknownCommand code h args) s = .next t ∧ Answers code h o .badCommand [] [] s t)
    ∧ (∀ c : CommandName, c ≠ .probe → c ≠ .openSession → args.length ≠ c.argBytes →
      ∃ t, exec (c.row h args) s = .next t ∧ Answers c.code h o .badField [0, 0] [] s t)
    ∧ (∃ t, exec (.resetPart h []) s = .next t ∧ Answers 0x05 h o .done [] [.resetAwaited] s t
        ∧ t.session.resetAwaited = true)

/-! ### Liveness and the mode -/

/-- The first expiry of the liveness timer warns and loads it again; the second loses the session and, in GOVERNED, enters
FALLBACK with cause LIVENESS (R157, R158). The laws of the queues are a premise. -/
def Obligations.LivenessExpires : Prop :=
  ∀ s : State, s.heldInReset = false →
    (∀ d, s.control.liveness = .running d →
      ∃ t, exec .livenessExpiry s = .next t
        ∧ t.control.liveness = .warned (s.now + 100000 * s.control.period)
        ∧ t.events.isSet .livenessWarning = true
        ∧ SameBut (.liveness :: statusParts .livenessWarning) s t)
    ∧ (∀ d, s.control.liveness = .warned d → QueueLaw s →
      let sessionEnds := fun t : State => t.session.current = none ∧ t.control.liveness = .disarmed
        ∧ t.notice = { s.notice with state := .idle } ∧ t.sPort.slot = none ∧ t.sPort.sending ≠ some .notice
      let changed := [.session, .liveness] ++ noticeParts
        ++ (if s.sPort.sending = some .notice then [.stationTransmission] else [])
      (s.control.mode = .fallback →
        ∃ t, exec .livenessExpiry s = .next t ∧ sessionEnds t ∧ SameBut changed s t)
      ∧ (s.control.mode = .governed →
        ∃ t, exec .livenessExpiry s = .next t ∧ sessionEnds t ∧ FellBack .liveness s t
          ∧ SameBut (changed ++ fallbackParts) s t))

/-- ENTER_FALLBACK enters FALLBACK with cause COMMAND and reports the fallback record, the holds resolved and whether a
commit was cancelled; in FALLBACK it is IN_FALLBACK (R160, R161). A notice that its records cause shows the mode, holds
and commit that it leaves (R152). The laws of the queues are a premise. The model's readings: the holds resolved and the
commit-cancelled item are one byte each (log 13), and the notice condition is evaluated when fallback entry is
complete (log 11). -/
def Obligations.EnterFallbackCommand : Prop :=
  ∀ (h : CommandHeader) (o : OpenSession) (s : State), NewCommand h o s → QueueLaw s →
    (s.control.mode = .governed →
      ∃ t, exec (.enterFallback h []) s = .next t ∧ FellBack .command s t
        ∧ Answers 0x19 h o .done (fallbackRecordReport t.control.fallbackRecord
            ++ [BitVec.ofNat 8 s.holdQueue.length, if s.commit.state = .pending then 1 else 0])
            fallbackParts s t
        ∧ NoticeEvaluated o.owner { t with notice := s.notice, sPort := s.sPort } t)
    ∧ (s.control.mode = .fallback →
      ∃ t, exec (.enterFallback h []) s = .next t ∧ Answers 0x19 h o .inFallback [] [] s t)

/-- RESUME returns to GOVERNED, is logged, and has the running epoch take the active bank's length; in GOVERNED it is
NOT_IN_FALLBACK (R65, R164). That no commit is pending in FALLBACK is the law of R152, taken as a premise. -/
def Obligations.ResumeReturnsToGoverned : Prop :=
  ∀ (h : CommandHeader) (o : OpenSession) (s : State), NewCommand h o s →
    (s.control.mode = .fallback → s.commit.state = .idle →
      let record : RecordBody := ⟨.modeChange, none, none, .active s.commit.generation, none, none, none, false,
        some (.modeChange .resume), []⟩
      ∃ t, exec (.resume h []) s = .next t
        ∧ Answers 0x1A h o .done ([0] ++ bytesOf16 s.commit.generation ++ [0])
            (.mode :: recordParts ++ boundaryParts) s t
        ∧ t.control.mode = .governed ∧ t.log = logAfterAll s.epoch s.log [record]
        ∧ EpochAdopts s.active.params.epochLength s t)
    ∧ (s.control.mode = .governed →
      ∃ t, exec (.resume h []) s = .next t ∧ Answers 0x1A h o .notInFallback [] [] s t)

/-! ### Loading the banks -/

/-- The commands that change the shadow bank: refused COMMIT_PENDING while a commit is pending, BAD_FIELD naming the first
field that fails, and otherwise executed on the shadow bank alone (R36, R37, R38, R39). -/
def Obligations.ShadowBankCommands : Prop :=
  ∀ (h : CommandHeader) (o : OpenSession) (s : State), NewCommand h o s →
    (∀ c args, c ∈ [CommandName.writeRule, .eraseRule, .clearShadow, .copyActiveToShadow, .writeBankParams] →
      args.length = c.argBytes → s.commit.state = .pending →
      ∃ t, exec (c.row h args) s = .next t ∧ Answers c.code h o .commitPending [] [] s t)
    ∧ (s.commit.state = .idle →
      (∀ (n : Fin Config.bankSlots) (r : Rule), r.Legal →
        ∃ t, exec (.writeRule h (BitVec.ofNat 8 n.val :: ruleBytes r)) s = .next t
          ∧ Answers 0x20 h o .done [] [.shadow] s t
          ∧ t.shadow = { s.shadow with slots := s.shadow.slots.set n.val (some r) })
      ∧ (∀ (n : Fin Config.bankSlots) (record : List Byte), record.length = 25 →
        (∀ k, ¬ RuleFieldFails (BitVec.ofNat 8 n.val) record k) →
        ∃ t r, exec (.writeRule h (BitVec.ofNat 8 n.val :: record)) s = .next t
          ∧ Answers 0x20 h o .done [] [.shadow] s t
          ∧ r = (readRuleRecord record).toRule ∧ r.Legal
          ∧ t.shadow = { s.shadow with slots := s.shadow.slots.set n.val (some r) })
      ∧ (∀ (slot : Byte) (record : List Byte) (place : Nat), record.length = 25 →
        FirstFailingRuleField slot record place →
        ∃ t, exec (.writeRule h (slot :: record)) s = .next t
          ∧ Answers 0x20 h o .badField [BitVec.ofNat 8 place, 0] [] s t)
      ∧ (∀ n : Fin Config.bankSlots, ∃ t, exec (.eraseRule h [BitVec.ofNat 8 n.val]) s = .next t
          ∧ Answers 0x21 h o .done [] [.shadow] s t
          ∧ t.shadow = { s.shadow with slots := s.shadow.slots.set n.val none })
      ∧ (∀ b : Byte, 127 < b.toNat → ∃ t, exec (.eraseRule h [b]) s = .next t
          ∧ Answers 0x21 h o .badField [1, 0] [] s t)
      ∧ (∃ t, exec (.clearShadow h []) s = .next t ∧ Answers 0x22 h o .done [] [.shadow] s t
          ∧ t.shadow.params = s.shadow.params ∧ ∀ n : Fin Config.bankSlots, t.shadow.slots[n] = none)
      ∧ (∃ t, exec (.copyActiveToShadow h []) s = .next t ∧ Answers 0x23 h o .done [] [.shadow] s t
          ∧ t.shadow = s.active)
      ∧ (∀ p : BankParams, 1 ≤ p.responseTimeout → p.responseTimeout ≤ 255 → 100 ≤ p.epochLength →
          p.epochLength ≤ 1000000 →
          ∃ t, exec (.writeBankParams h (paramsBytes p)) s = .next t ∧ Answers 0x24 h o .done [] [.shadow] s t
            ∧ t.shadow = { s.shadow with params := p })
      ∧ (∀ (args : List Byte) (place meter : Nat), args.length = 54 → FirstFailingParameter args place meter →
          ∃ t, exec (.writeBankParams h args) s = .next t
            ∧ Answers 0x24 h o .badField [BitVec.ofNat 8 place, BitVec.ofNat 8 meter] [] s t))

/-- The commands that change the fallback table: refused IN_FALLBACK in mode FALLBACK, BAD_FIELD naming the first field
that fails, and otherwise executed on the fallback table at once (R41, R42). -/
def Obligations.FallbackTableCommands : Prop :=
  ∀ (h : CommandHeader) (o : OpenSession) (s : State), NewCommand h o s →
    (∀ c args, c ∈ [CommandName.writeFallbackRule, .eraseFallbackRule, .writeFallbackParams] →
      args.length = c.argBytes → s.control.mode = .fallback →
      ∃ t, exec (c.row h args) s = .next t ∧ Answers c.code h o .inFallback [] [] s t)
    ∧ (s.control.mode = .governed →
      (∀ (n : Fin Config.fallbackSlots) (r : FallbackRule), r.selector.Legal →
        ∃ t, exec (.writeFallbackRule h (BitVec.ofNat 8 n.val :: ruleBytes r.toRule)) s = .next t
          ∧ Answers 0x28 h o .done [] [.fallback] s t
          ∧ t.fallback = { s.fallback with slots := s.fallback.slots.set n.val (some r) })
      ∧ (∀ (n : Fin Config.fallbackSlots) (record : List Byte), record.length = 25 →
        (∀ k, ¬ FallbackFieldFails (BitVec.ofNat 8 n.val) record k) →
        ∃ t r, exec (.writeFallbackRule h (BitVec.ofNat 8 n.val :: record)) s = .next t
          ∧ Answers 0x28 h o .done [] [.fallback] s t
          ∧ r = (readRuleRecord record).toFallbackRule ∧ r.selector.Legal
          ∧ t.fallback = { s.fallback with slots := s.fallback.slots.set n.val (some r) })
      ∧ (∀ (slot : Byte) (record : List Byte) (place : Nat), record.length = 25 →
        FirstFailingFallbackField slot record place →
        ∃ t, exec (.writeFallbackRule h (slot :: record)) s = .next t
          ∧ Answers 0x28 h o .badField [BitVec.ofNat 8 place, 0] [] s t)
      ∧ (∀ n : Fin Config.fallbackSlots, ∃ t, exec (.eraseFallbackRule h [BitVec.ofNat 8 n.val]) s = .next t
          ∧ Answers 0x29 h o .done [] [.fallback] s t
          ∧ t.fallback = { s.fallback with slots := s.fallback.slots.set n.val none })
      ∧ (∀ b : Byte, 7 < b.toNat → ∃ t, exec (.eraseFallbackRule h [b]) s = .next t
          ∧ Answers 0x29 h o .badField [1, 0] [] s t)
      ∧ (∀ (m : MissAction) (b : Byte), b ≠ 0 →
        ∃ t, exec (.writeFallbackParams h [m.code, b]) s = .next t ∧ Answers 0x2A h o .done [] [.fallback] s t
          ∧ t.fallback = { s.fallback with missAction := m, responseTimeout := b.toNat })
      ∧ (∀ a b : Byte, 2 < a.toNat → ∃ t, exec (.writeFallbackParams h [a, b]) s = .next t
          ∧ Answers 0x2A h o .badField [1, 0] [] s t)
      ∧ (∀ a : Byte, a.toNat ≤ 2 → ∃ t, exec (.writeFallbackParams h [a, 0]) s = .next t
          ∧ Answers 0x2A h o .badField [2, 0] [] s t))

/-- No bit of a rule record is dropped: the 25 bytes of a legal rule read back as the rule (R25, R26, R189). -/
def Obligations.RuleRecordRoundTrip : Prop :=
  (∀ r : Rule, r.Legal → (ruleBytes r).length = 25 ∧ (readRuleRecord (ruleBytes r)).toRule = r)
  ∧ (∀ r : FallbackRule, r.selector.Legal → (readRuleRecord (ruleBytes r.toRule)).toFallbackRule = r)

/-! ### The laws of the device -/

/-- The laws hold at reset. That reset has the straps read address 1 and START open is the model's choice (log 5). -/
def Obligations.LawsHoldAtReset : Prop :=
  QueueLaw State.reset ∧ TagLaw State.reset ∧ MeterLaw State.reset ∧ WindowLaw State.reset ∧ RuleLaw State.reset
    ∧ SessionLaw State.reset ∧ RangeLaw State.reset

/-- Every step keeps the law of the queues of entries (R46, R48, R152, R172, R177). -/
def Obligations.QueueLawIsKept : Prop := ∀ s t : State, QueueLaw s → step s = .next t → QueueLaw t

/-- Every step keeps station and tag of entries in use apart (R3). -/
def Obligations.TagLawIsKept : Prop := ∀ s t : State, TagLaw s → step s = .next t → TagLaw t

/-- Every step keeps each consumed count within its budget (R74). -/
def Obligations.MeterLawIsKept : Prop := ∀ s t : State, MeterLaw s → step s = .next t → MeterLaw t

/-- Every step keeps the windows in force below the epoch length, and the contents of the active bank change only at a
boundary at which a commit was pending, where they become the shadow bank, or by a reset (R84, R87). -/
def Obligations.WindowLawIsKept : Prop :=
  ∀ s t : State, WindowLaw s → step s = .next t → WindowLaw t
    ∧ (t.active = s.active ∨ (s.commit.state = .pending ∧ t.active = s.shadow ∧ t.epoch.number = s.epoch.number + 1)
      ∨ (t.active = resetBank ∧ t.commit = ⟨.idle, 0⟩))

/-- Every step keeps rules and parameters in the form the manual gives them, and the offset below the epoch length in force
(R23 to R26, R37, R39, R42, R64). -/
def Obligations.RuleLawIsKept : Prop := ∀ s t : State, RuleLaw s → step s = .next t → RuleLaw t

/-- Every step keeps the liveness timer armed exactly while a session is open, notices with the owner of an open session,
and no notice due that has not been made (R117, R127). -/
def Obligations.SessionLawIsKept : Prop := ∀ s t : State, SessionLaw s → step s = .next t → SessionLaw t

/-- Every step keeps counts, queues and settings in their ranges, and the two fixed kinds enabled and on LINE
(R22, R96, R111, R117, R155, R163, R172). -/
def Obligations.RangeLawIsKept : Prop := ∀ s t : State, RangeLaw s → step s = .next t → RangeLaw t

/-- An entry moves only forward, with the fields it was decided with, and its generation changes only at an allocation, but
for the steps that take or perform a reset; while a management reset is awaited the part runs on (R2, R3, R7, R147). -/
def Obligations.EntriesMoveForward : Prop :=
  ∀ s t : State, step s = .next t → ¬ PerformsReset s →
    (∀ straps start rest, s.pending ≠ .powerOnReset straps start :: rest) →
    ∀ i : EntryIndex, EntryMoves s.table[i] t.table[i]

/-- After every step that takes effect, an idle transmitter of an UP port has nothing to send. While its transmission has not
ended, the S-port goes on with the same frame; when it has ended, the S-port sends the next part of the same reply or what
heads the first queue by rank; an idle S-port begins with what heads the first queue by rank (R173, R174, R177, R186). Only
in a state that breaks the laws of the session can a NOTICE give way without such an end. -/
def Obligations.TransmittersNeverWait : Prop :=
  ∀ s t : State, step s = .next t → t.heldInReset = false →
    (t.sPort.link.isUp = true → t.sPort.sending = none →
      t.sPort.replies = [] ∧ t.sPort.slot = none ∧ t.sPort.returns = [] ∧ t.sPort.refusals = [])
    ∧ (t.nPort.link.isUp = true → t.nPort.busy = false → t.nPort.queue = [])
    ∧ (∀ x, t.sPort.sending = some x → SendingEnds s t →
      (∃ part, s.sPort.sending = some (.reply part) ∧ x = .reply (part + 1) ∧ t.sPort.replies = s.sPort.replies)
        ∨ SendingByRank t.sPort x)
    ∧ (∀ x, t.sPort.sending = some x → ¬ SendingEnds s t →
      SendingGoesOn s.sPort t.sPort x
        ∨ ((s.sPort.sending = none ∨ s.sPort.sending = some .notice ∧ x ≠ .notice) ∧ SendingByRank t.sPort x))

end
end

