-- ==== Sys2Proof/Laws/State.lean ====
section
/-! SUPPORT. One lemma for each field and each named update of the state. -/
namespace Sys2Proof.Machine

@[simp] theorem State.bumpBy_heldInReset (n : Nat) (c : Counter) (s : State) : (s.bumpBy n c).heldInReset = s.heldInReset := rfl
@[simp] theorem State.bumpBy_now (n : Nat) (c : Counter) (s : State) : (s.bumpBy n c).now = s.now := rfl
@[simp] theorem State.bumpBy_epoch (n : Nat) (c : Counter) (s : State) : (s.bumpBy n c).epoch = s.epoch := rfl
@[simp] theorem State.bumpBy_table (n : Nat) (c : Counter) (s : State) : (s.bumpBy n c).table = s.table := rfl
@[simp] theorem State.bumpBy_resetCause (n : Nat) (c : Counter) (s : State) : (s.bumpBy n c).resetCause = s.resetCause := rfl
@[simp] theorem State.bumpBy_active (n : Nat) (c : Counter) (s : State) : (s.bumpBy n c).active = s.active := rfl
@[simp] theorem State.bumpBy_shadow (n : Nat) (c : Counter) (s : State) : (s.bumpBy n c).shadow = s.shadow := rfl
@[simp] theorem State.bumpBy_fallback (n : Nat) (c : Counter) (s : State) : (s.bumpBy n c).fallback = s.fallback := rfl
@[simp] theorem State.bumpBy_commit (n : Nat) (c : Counter) (s : State) : (s.bumpBy n c).commit = s.commit := rfl
@[simp] theorem State.bumpBy_holdQueue (n : Nat) (c : Counter) (s : State) : (s.bumpBy n c).holdQueue = s.holdQueue := rfl
@[simp] theorem State.bumpBy_meters (n : Nat) (c : Counter) (s : State) : (s.bumpBy n c).meters = s.meters := rfl
@[simp] theorem State.bumpBy_log (n : Nat) (c : Counter) (s : State) : (s.bumpBy n c).log = s.log := rfl
@[simp] theorem State.bumpBy_events (n : Nat) (c : Counter) (s : State) : (s.bumpBy n c).events = s.events := rfl
@[simp] theorem State.bumpBy_notice (n : Nat) (c : Counter) (s : State) : (s.bumpBy n c).notice = s.notice := rfl
@[simp] theorem State.bumpBy_session (n : Nat) (c : Counter) (s : State) : (s.bumpBy n c).session = s.session := rfl
@[simp] theorem State.bumpBy_control (n : Nat) (c : Counter) (s : State) : (s.bumpBy n c).control = s.control := rfl
@[simp] theorem State.bumpBy_sPort (n : Nat) (c : Counter) (s : State) : (s.bumpBy n c).sPort = s.sPort := rfl
@[simp] theorem State.bumpBy_nPort (n : Nat) (c : Counter) (s : State) : (s.bumpBy n c).nPort = s.nPort := rfl
@[simp] theorem State.bumpBy_counters_nextGroup (n : Nat) (c : Counter) (s : State) : (s.bumpBy n c).counters.nextGroup = s.counters.nextGroup := rfl
@[simp] theorem State.bumpBy_choices (n : Nat) (c : Counter) (s : State) : (s.bumpBy n c).choices = s.choices := rfl
@[simp] theorem State.bumpBy_pending (n : Nat) (c : Counter) (s : State) : (s.bumpBy n c).pending = s.pending := rfl
@[simp] theorem State.bumpBy_entryState (n : Nat) (c : Counter) (j : EntryIndex) (s : State) : (s.bumpBy n c).entryState j = s.entryState j := rfl
@[simp] theorem State.bumpBy_generation (n : Nat) (c : Counter) (j : EntryIndex) (s : State) : (s.bumpBy n c).generation j = s.generation j := rfl
@[simp] theorem State.bumpBy_link (n : Nat) (c : Counter) (q : PortName) (s : State) : (s.bumpBy n c).link q = s.link q := rfl
@[simp] theorem State.bumpBy_epochLength (n : Nat) (c : Counter) (s : State) : (s.bumpBy n c).epochLength = s.epochLength := rfl
@[simp] theorem State.bumpBy_tableInForce (n : Nat) (c : Counter) (s : State) : (s.bumpBy n c).tableInForce = s.tableInForce := rfl
@[simp] theorem State.setLink_heldInReset (p : PortName) (l : Link) (s : State) : (s.setLink p l).heldInReset = s.heldInReset := by cases p <;> rfl
@[simp] theorem State.setLink_now (p : PortName) (l : Link) (s : State) : (s.setLink p l).now = s.now := by cases p <;> rfl
@[simp] theorem State.setLink_epoch (p : PortName) (l : Link) (s : State) : (s.setLink p l).epoch = s.epoch := by cases p <;> rfl
@[simp] theorem State.setLink_table (p : PortName) (l : Link) (s : State) : (s.setLink p l).table = s.table := by cases p <;> rfl
@[simp] theorem State.setLink_resetCause (p : PortName) (l : Link) (s : State) : (s.setLink p l).resetCause = s.resetCause := by cases p <;> rfl
@[simp] theorem State.setLink_active (p : PortName) (l : Link) (s : State) : (s.setLink p l).active = s.active := by cases p <;> rfl
@[simp] theorem State.setLink_shadow (p : PortName) (l : Link) (s : State) : (s.setLink p l).shadow = s.shadow := by cases p <;> rfl
@[simp] theorem State.setLink_fallback (p : PortName) (l : Link) (s : State) : (s.setLink p l).fallback = s.fallback := by cases p <;> rfl
@[simp] theorem State.setLink_commit (p : PortName) (l : Link) (s : State) : (s.setLink p l).commit = s.commit := by cases p <;> rfl
@[simp] theorem State.setLink_holdQueue (p : PortName) (l : Link) (s : State) : (s.setLink p l).holdQueue = s.holdQueue := by cases p <;> rfl
@[simp] theorem State.setLink_meters (p : PortName) (l : Link) (s : State) : (s.setLink p l).meters = s.meters := by cases p <;> rfl
@[simp] theorem State.setLink_log (p : PortName) (l : Link) (s : State) : (s.setLink p l).log = s.log := by cases p <;> rfl
@[simp] theorem State.setLink_events (p : PortName) (l : Link) (s : State) : (s.setLink p l).events = s.events := by cases p <;> rfl
@[simp] theorem State.setLink_notice (p : PortName) (l : Link) (s : State) : (s.setLink p l).notice = s.notice := by cases p <;> rfl
@[simp] theorem State.setLink_session (p : PortName) (l : Link) (s : State) : (s.setLink p l).session = s.session := by cases p <;> rfl
@[simp] theorem State.setLink_control (p : PortName) (l : Link) (s : State) : (s.setLink p l).control = s.control := by cases p <;> rfl
@[simp] theorem State.setLink_sPort_replies (p : PortName) (l : Link) (s : State) : (s.setLink p l).sPort.replies = s.sPort.replies := by cases p <;> rfl
@[simp] theorem State.setLink_sPort_slot (p : PortName) (l : Link) (s : State) : (s.setLink p l).sPort.slot = s.sPort.slot := by cases p <;> rfl
@[simp] theorem State.setLink_sPort_returns (p : PortName) (l : Link) (s : State) : (s.setLink p l).sPort.returns = s.sPort.returns := by cases p <;> rfl
@[simp] theorem State.setLink_sPort_refusals (p : PortName) (l : Link) (s : State) : (s.setLink p l).sPort.refusals = s.sPort.refusals := by cases p <;> rfl
@[simp] theorem State.setLink_sPort_sending (p : PortName) (l : Link) (s : State) : (s.setLink p l).sPort.sending = s.sPort.sending := by cases p <;> rfl
@[simp] theorem State.setLink_nPort_queue (p : PortName) (l : Link) (s : State) : (s.setLink p l).nPort.queue = s.nPort.queue := by cases p <;> rfl
@[simp] theorem State.setLink_nPort_busy (p : PortName) (l : Link) (s : State) : (s.setLink p l).nPort.busy = s.nPort.busy := by cases p <;> rfl
@[simp] theorem State.setLink_counters (p : PortName) (l : Link) (s : State) : (s.setLink p l).counters = s.counters := by cases p <;> rfl
@[simp] theorem State.setLink_choices (p : PortName) (l : Link) (s : State) : (s.setLink p l).choices = s.choices := by cases p <;> rfl
@[simp] theorem State.setLink_pending (p : PortName) (l : Link) (s : State) : (s.setLink p l).pending = s.pending := by cases p <;> rfl
@[simp] theorem State.setLink_entryState (p : PortName) (l : Link) (j : EntryIndex) (s : State) : (s.setLink p l).entryState j = s.entryState j := by cases p <;> rfl
@[simp] theorem State.setLink_generation (p : PortName) (l : Link) (j : EntryIndex) (s : State) : (s.setLink p l).generation j = s.generation j := by cases p <;> rfl
@[simp] theorem State.setLink_count (p : PortName) (l : Link) (d : Counter) (s : State) : (s.setLink p l).count d = s.count d := by cases p <;> rfl
@[simp] theorem State.setLink_epochLength (p : PortName) (l : Link) (s : State) : (s.setLink p l).epochLength = s.epochLength := by cases p <;> rfl
@[simp] theorem State.setLink_tableInForce (p : PortName) (l : Link) (s : State) : (s.setLink p l).tableInForce = s.tableInForce := by cases p <;> rfl
@[simp] theorem State.clearStatus_heldInReset (k : EventKind) (s : State) : (s.clearStatus k).heldInReset = s.heldInReset := rfl
@[simp] theorem State.clearStatus_now (k : EventKind) (s : State) : (s.clearStatus k).now = s.now := rfl
@[simp] theorem State.clearStatus_epoch (k : EventKind) (s : State) : (s.clearStatus k).epoch = s.epoch := rfl
@[simp] theorem State.clearStatus_table (k : EventKind) (s : State) : (s.clearStatus k).table = s.table := rfl
@[simp] theorem State.clearStatus_resetCause (k : EventKind) (s : State) : (s.clearStatus k).resetCause = s.resetCause := rfl
@[simp] theorem State.clearStatus_active (k : EventKind) (s : State) : (s.clearStatus k).active = s.active := rfl
@[simp] theorem State.clearStatus_shadow (k : EventKind) (s : State) : (s.clearStatus k).shadow = s.shadow := rfl
@[simp] theorem State.clearStatus_fallback (k : EventKind) (s : State) : (s.clearStatus k).fallback = s.fallback := rfl
@[simp] theorem State.clearStatus_commit (k : EventKind) (s : State) : (s.clearStatus k).commit = s.commit := rfl
@[simp] theorem State.clearStatus_holdQueue (k : EventKind) (s : State) : (s.clearStatus k).holdQueue = s.holdQueue := rfl
@[simp] theorem State.clearStatus_meters (k : EventKind) (s : State) : (s.clearStatus k).meters = s.meters := rfl
@[simp] theorem State.clearStatus_log (k : EventKind) (s : State) : (s.clearStatus k).log = s.log := rfl
@[simp] theorem State.clearStatus_events_enable (k : EventKind) (s : State) : (s.clearStatus k).events.enable = s.events.enable := rfl
@[simp] theorem State.clearStatus_events_line (k : EventKind) (s : State) : (s.clearStatus k).events.line = s.events.line := rfl
@[simp] theorem State.clearStatus_notice (k : EventKind) (s : State) : (s.clearStatus k).notice = s.notice := rfl
@[simp] theorem State.clearStatus_session (k : EventKind) (s : State) : (s.clearStatus k).session = s.session := rfl
@[simp] theorem State.clearStatus_control (k : EventKind) (s : State) : (s.clearStatus k).control = s.control := rfl
@[simp] theorem State.clearStatus_sPort (k : EventKind) (s : State) : (s.clearStatus k).sPort = s.sPort := rfl
@[simp] theorem State.clearStatus_nPort (k : EventKind) (s : State) : (s.clearStatus k).nPort = s.nPort := rfl
@[simp] theorem State.clearStatus_counters (k : EventKind) (s : State) : (s.clearStatus k).counters = s.counters := rfl
@[simp] theorem State.clearStatus_choices (k : EventKind) (s : State) : (s.clearStatus k).choices = s.choices := rfl
@[simp] theorem State.clearStatus_pending (k : EventKind) (s : State) : (s.clearStatus k).pending = s.pending := rfl
@[simp] theorem State.clearStatus_entryState (k : EventKind) (j : EntryIndex) (s : State) : (s.clearStatus k).entryState j = s.entryState j := rfl
@[simp] theorem State.clearStatus_generation (k : EventKind) (j : EntryIndex) (s : State) : (s.clearStatus k).generation j = s.generation j := rfl
@[simp] theorem State.clearStatus_count (k : EventKind) (d : Counter) (s : State) : (s.clearStatus k).count d = s.count d := rfl
@[simp] theorem State.clearStatus_link (k : EventKind) (q : PortName) (s : State) : (s.clearStatus k).link q = s.link q := rfl
@[simp] theorem State.clearStatus_epochLength (k : EventKind) (s : State) : (s.clearStatus k).epochLength = s.epochLength := rfl
@[simp] theorem State.clearStatus_tableInForce (k : EventKind) (s : State) : (s.clearStatus k).tableInForce = s.tableInForce := rfl
@[simp] theorem State.makeNotice_heldInReset (owner : Byte) (s : State) : (s.makeNotice owner).heldInReset = s.heldInReset := rfl
@[simp] theorem State.makeNotice_now (owner : Byte) (s : State) : (s.makeNotice owner).now = s.now := rfl
@[simp] theorem State.makeNotice_epoch (owner : Byte) (s : State) : (s.makeNotice owner).epoch = s.epoch := rfl
@[simp] theorem State.makeNotice_table (owner : Byte) (s : State) : (s.makeNotice owner).table = s.table := rfl
@[simp] theorem State.makeNotice_resetCause (owner : Byte) (s : State) : (s.makeNotice owner).resetCause = s.resetCause := rfl
@[simp] theorem State.makeNotice_active (owner : Byte) (s : State) : (s.makeNotice owner).active = s.active := rfl
@[simp] theorem State.makeNotice_shadow (owner : Byte) (s : State) : (s.makeNotice owner).shadow = s.shadow := rfl
@[simp] theorem State.makeNotice_fallback (owner : Byte) (s : State) : (s.makeNotice owner).fallback = s.fallback := rfl
@[simp] theorem State.makeNotice_commit (owner : Byte) (s : State) : (s.makeNotice owner).commit = s.commit := rfl
@[simp] theorem State.makeNotice_holdQueue (owner : Byte) (s : State) : (s.makeNotice owner).holdQueue = s.holdQueue := rfl
@[simp] theorem State.makeNotice_meters (owner : Byte) (s : State) : (s.makeNotice owner).meters = s.meters := rfl
@[simp] theorem State.makeNotice_log (owner : Byte) (s : State) : (s.makeNotice owner).log = s.log := rfl
@[simp] theorem State.makeNotice_events (owner : Byte) (s : State) : (s.makeNotice owner).events = s.events := rfl
@[simp] theorem State.makeNotice_notice_interval (owner : Byte) (s : State) : (s.makeNotice owner).notice.interval = s.notice.interval := rfl
@[simp] theorem State.makeNotice_session (owner : Byte) (s : State) : (s.makeNotice owner).session = s.session := rfl
@[simp] theorem State.makeNotice_control (owner : Byte) (s : State) : (s.makeNotice owner).control = s.control := rfl
@[simp] theorem State.makeNotice_sPort_link (owner : Byte) (s : State) : (s.makeNotice owner).sPort.link = s.sPort.link := rfl
@[simp] theorem State.makeNotice_sPort_replies (owner : Byte) (s : State) : (s.makeNotice owner).sPort.replies = s.sPort.replies := rfl
@[simp] theorem State.makeNotice_sPort_returns (owner : Byte) (s : State) : (s.makeNotice owner).sPort.returns = s.sPort.returns := rfl
@[simp] theorem State.makeNotice_sPort_refusals (owner : Byte) (s : State) : (s.makeNotice owner).sPort.refusals = s.sPort.refusals := rfl
@[simp] theorem State.makeNotice_sPort_sending (owner : Byte) (s : State) : (s.makeNotice owner).sPort.sending = s.sPort.sending := rfl
@[simp] theorem State.makeNotice_nPort (owner : Byte) (s : State) : (s.makeNotice owner).nPort = s.nPort := rfl
@[simp] theorem State.makeNotice_counters (owner : Byte) (s : State) : (s.makeNotice owner).counters = s.counters := rfl
@[simp] theorem State.makeNotice_choices (owner : Byte) (s : State) : (s.makeNotice owner).choices = s.choices := rfl
@[simp] theorem State.makeNotice_pending (owner : Byte) (s : State) : (s.makeNotice owner).pending = s.pending := rfl
@[simp] theorem State.makeNotice_entryState (owner : Byte) (j : EntryIndex) (s : State) : (s.makeNotice owner).entryState j = s.entryState j := rfl
@[simp] theorem State.makeNotice_generation (owner : Byte) (j : EntryIndex) (s : State) : (s.makeNotice owner).generation j = s.generation j := rfl
@[simp] theorem State.makeNotice_count (owner : Byte) (d : Counter) (s : State) : (s.makeNotice owner).count d = s.count d := rfl
@[simp] theorem State.makeNotice_link (owner : Byte) (q : PortName) (s : State) : (s.makeNotice owner).link q = s.link q := rfl
@[simp] theorem State.makeNotice_epochLength (owner : Byte) (s : State) : (s.makeNotice owner).epochLength = s.epochLength := rfl
@[simp] theorem State.makeNotice_tableInForce (owner : Byte) (s : State) : (s.makeNotice owner).tableInForce = s.tableInForce := rfl
@[simp] theorem State.withdrawNotice_heldInReset (s : State) : (s.withdrawNotice).heldInReset = s.heldInReset := rfl
@[simp] theorem State.withdrawNotice_now (s : State) : (s.withdrawNotice).now = s.now := rfl
@[simp] theorem State.withdrawNotice_epoch (s : State) : (s.withdrawNotice).epoch = s.epoch := rfl
@[simp] theorem State.withdrawNotice_table (s : State) : (s.withdrawNotice).table = s.table := rfl
@[simp] theorem State.withdrawNotice_resetCause (s : State) : (s.withdrawNotice).resetCause = s.resetCause := rfl
@[simp] theorem State.withdrawNotice_active (s : State) : (s.withdrawNotice).active = s.active := rfl
@[simp] theorem State.withdrawNotice_shadow (s : State) : (s.withdrawNotice).shadow = s.shadow := rfl
@[simp] theorem State.withdrawNotice_fallback (s : State) : (s.withdrawNotice).fallback = s.fallback := rfl
@[simp] theorem State.withdrawNotice_commit (s : State) : (s.withdrawNotice).commit = s.commit := rfl
@[simp] theorem State.withdrawNotice_holdQueue (s : State) : (s.withdrawNotice).holdQueue = s.holdQueue := rfl
@[simp] theorem State.withdrawNotice_meters (s : State) : (s.withdrawNotice).meters = s.meters := rfl
@[simp] theorem State.withdrawNotice_log (s : State) : (s.withdrawNotice).log = s.log := rfl
@[simp] theorem State.withdrawNotice_events (s : State) : (s.withdrawNotice).events = s.events := rfl
@[simp] theorem State.withdrawNotice_notice_number (s : State) : (s.withdrawNotice).notice.number = s.notice.number := rfl
@[simp] theorem State.withdrawNotice_notice_interval (s : State) : (s.withdrawNotice).notice.interval = s.notice.interval := rfl
@[simp] theorem State.withdrawNotice_session (s : State) : (s.withdrawNotice).session = s.session := rfl
@[simp] theorem State.withdrawNotice_control (s : State) : (s.withdrawNotice).control = s.control := rfl
@[simp] theorem State.withdrawNotice_sPort_link (s : State) : (s.withdrawNotice).sPort.link = s.sPort.link := rfl
@[simp] theorem State.withdrawNotice_sPort_replies (s : State) : (s.withdrawNotice).sPort.replies = s.sPort.replies := rfl
@[simp] theorem State.withdrawNotice_sPort_returns (s : State) : (s.withdrawNotice).sPort.returns = s.sPort.returns := rfl
@[simp] theorem State.withdrawNotice_sPort_refusals (s : State) : (s.withdrawNotice).sPort.refusals = s.sPort.refusals := rfl
@[simp] theorem State.withdrawNotice_nPort (s : State) : (s.withdrawNotice).nPort = s.nPort := rfl
@[simp] theorem State.withdrawNotice_counters (s : State) : (s.withdrawNotice).counters = s.counters := rfl
@[simp] theorem State.withdrawNotice_choices (s : State) : (s.withdrawNotice).choices = s.choices := rfl
@[simp] theorem State.withdrawNotice_pending (s : State) : (s.withdrawNotice).pending = s.pending := rfl
@[simp] theorem State.withdrawNotice_entryState (j : EntryIndex) (s : State) : (s.withdrawNotice).entryState j = s.entryState j := rfl
@[simp] theorem State.withdrawNotice_generation (j : EntryIndex) (s : State) : (s.withdrawNotice).generation j = s.generation j := rfl
@[simp] theorem State.withdrawNotice_count (d : Counter) (s : State) : (s.withdrawNotice).count d = s.count d := rfl
@[simp] theorem State.withdrawNotice_link (q : PortName) (s : State) : (s.withdrawNotice).link q = s.link q := rfl
@[simp] theorem State.withdrawNotice_epochLength (s : State) : (s.withdrawNotice).epochLength = s.epochLength := rfl
@[simp] theorem State.withdrawNotice_tableInForce (s : State) : (s.withdrawNotice).tableInForce = s.tableInForce := rfl
@[simp] theorem State.putRecords_heldInReset (rs : List LogRecord) (s : State) : (s.putRecords rs).heldInReset = s.heldInReset := rfl
@[simp] theorem State.putRecords_now (rs : List LogRecord) (s : State) : (s.putRecords rs).now = s.now := rfl
@[simp] theorem State.putRecords_epoch (rs : List LogRecord) (s : State) : (s.putRecords rs).epoch = s.epoch := rfl
@[simp] theorem State.putRecords_table (rs : List LogRecord) (s : State) : (s.putRecords rs).table = s.table := rfl
@[simp] theorem State.putRecords_resetCause (rs : List LogRecord) (s : State) : (s.putRecords rs).resetCause = s.resetCause := rfl
@[simp] theorem State.putRecords_active (rs : List LogRecord) (s : State) : (s.putRecords rs).active = s.active := rfl
@[simp] theorem State.putRecords_shadow (rs : List LogRecord) (s : State) : (s.putRecords rs).shadow = s.shadow := rfl
@[simp] theorem State.putRecords_fallback (rs : List LogRecord) (s : State) : (s.putRecords rs).fallback = s.fallback := rfl
@[simp] theorem State.putRecords_commit (rs : List LogRecord) (s : State) : (s.putRecords rs).commit = s.commit := rfl
@[simp] theorem State.putRecords_holdQueue (rs : List LogRecord) (s : State) : (s.putRecords rs).holdQueue = s.holdQueue := rfl
@[simp] theorem State.putRecords_meters (rs : List LogRecord) (s : State) : (s.putRecords rs).meters = s.meters := rfl
@[simp] theorem State.putRecords_log_mode (rs : List LogRecord) (s : State) : (s.putRecords rs).log.mode = s.log.mode := rfl
@[simp] theorem State.putRecords_log_threshold (rs : List LogRecord) (s : State) : (s.putRecords rs).log.threshold = s.log.threshold := rfl
@[simp] theorem State.putRecords_log_refusalLogging (rs : List LogRecord) (s : State) : (s.putRecords rs).log.refusalLogging = s.log.refusalLogging := rfl
@[simp] theorem State.putRecords_log_strayLogging (rs : List LogRecord) (s : State) : (s.putRecords rs).log.strayLogging = s.log.strayLogging := rfl
@[simp] theorem State.putRecords_log_lostCount (rs : List LogRecord) (s : State) : (s.putRecords rs).log.lostCount = s.log.lostCount := rfl
@[simp] theorem State.putRecords_events (rs : List LogRecord) (s : State) : (s.putRecords rs).events = s.events := rfl
@[simp] theorem State.putRecords_notice (rs : List LogRecord) (s : State) : (s.putRecords rs).notice = s.notice := rfl
@[simp] theorem State.putRecords_session (rs : List LogRecord) (s : State) : (s.putRecords rs).session = s.session := rfl
@[simp] theorem State.putRecords_control (rs : List LogRecord) (s : State) : (s.putRecords rs).control = s.control := rfl
@[simp] theorem State.putRecords_sPort (rs : List LogRecord) (s : State) : (s.putRecords rs).sPort = s.sPort := rfl
@[simp] theorem State.putRecords_nPort (rs : List LogRecord) (s : State) : (s.putRecords rs).nPort = s.nPort := rfl
@[simp] theorem State.putRecords_counters (rs : List LogRecord) (s : State) : (s.putRecords rs).counters = s.counters := rfl
@[simp] theorem State.putRecords_choices (rs : List LogRecord) (s : State) : (s.putRecords rs).choices = s.choices := rfl
@[simp] theorem State.putRecords_pending (rs : List LogRecord) (s : State) : (s.putRecords rs).pending = s.pending := rfl
@[simp] theorem State.putRecords_entryState (rs : List LogRecord) (j : EntryIndex) (s : State) : (s.putRecords rs).entryState j = s.entryState j := rfl
@[simp] theorem State.putRecords_generation (rs : List LogRecord) (j : EntryIndex) (s : State) : (s.putRecords rs).generation j = s.generation j := rfl
@[simp] theorem State.putRecords_count (rs : List LogRecord) (d : Counter) (s : State) : (s.putRecords rs).count d = s.count d := rfl
@[simp] theorem State.putRecords_link (rs : List LogRecord) (q : PortName) (s : State) : (s.putRecords rs).link q = s.link q := rfl
@[simp] theorem State.putRecords_epochLength (rs : List LogRecord) (s : State) : (s.putRecords rs).epochLength = s.epochLength := rfl
@[simp] theorem State.putRecords_tableInForce (rs : List LogRecord) (s : State) : (s.putRecords rs).tableInForce = s.tableInForce := rfl
@[simp] theorem State.setEntry_heldInReset (i : EntryIndex) (e : Entry) (s : State) : (s.setEntry i e).heldInReset = s.heldInReset := rfl
@[simp] theorem State.setEntry_now (i : EntryIndex) (e : Entry) (s : State) : (s.setEntry i e).now = s.now := rfl
@[simp] theorem State.setEntry_epoch (i : EntryIndex) (e : Entry) (s : State) : (s.setEntry i e).epoch = s.epoch := rfl
@[simp] theorem State.setEntry_resetCause (i : EntryIndex) (e : Entry) (s : State) : (s.setEntry i e).resetCause = s.resetCause := rfl
@[simp] theorem State.setEntry_active (i : EntryIndex) (e : Entry) (s : State) : (s.setEntry i e).active = s.active := rfl
@[simp] theorem State.setEntry_shadow (i : EntryIndex) (e : Entry) (s : State) : (s.setEntry i e).shadow = s.shadow := rfl
@[simp] theorem State.setEntry_fallback (i : EntryIndex) (e : Entry) (s : State) : (s.setEntry i e).fallback = s.fallback := rfl
@[simp] theorem State.setEntry_commit (i : EntryIndex) (e : Entry) (s : State) : (s.setEntry i e).commit = s.commit := rfl
@[simp] theorem State.setEntry_holdQueue (i : EntryIndex) (e : Entry) (s : State) : (s.setEntry i e).holdQueue = s.holdQueue := rfl
@[simp] theorem State.setEntry_meters (i : EntryIndex) (e : Entry) (s : State) : (s.setEntry i e).meters = s.meters := rfl
@[simp] theorem State.setEntry_log (i : EntryIndex) (e : Entry) (s : State) : (s.setEntry i e).log = s.log := rfl
@[simp] theorem State.setEntry_events (i : EntryIndex) (e : Entry) (s : State) : (s.setEntry i e).events = s.events := rfl
@[simp] theorem State.setEntry_notice (i : EntryIndex) (e : Entry) (s : State) : (s.setEntry i e).notice = s.notice := rfl
@[simp] theorem State.setEntry_session (i : EntryIndex) (e : Entry) (s : State) : (s.setEntry i e).session = s.session := rfl
@[simp] theorem State.setEntry_control (i : EntryIndex) (e : Entry) (s : State) : (s.setEntry i e).control = s.control := rfl
@[simp] theorem State.setEntry_sPort (i : EntryIndex) (e : Entry) (s : State) : (s.setEntry i e).sPort = s.sPort := rfl
@[simp] theorem State.setEntry_nPort (i : EntryIndex) (e : Entry) (s : State) : (s.setEntry i e).nPort = s.nPort := rfl
@[simp] theorem State.setEntry_counters (i : EntryIndex) (e : Entry) (s : State) : (s.setEntry i e).counters = s.counters := rfl
@[simp] theorem State.setEntry_choices (i : EntryIndex) (e : Entry) (s : State) : (s.setEntry i e).choices = s.choices := rfl
@[simp] theorem State.setEntry_pending (i : EntryIndex) (e : Entry) (s : State) : (s.setEntry i e).pending = s.pending := rfl
@[simp] theorem State.setEntry_count (i : EntryIndex) (e : Entry) (d : Counter) (s : State) : (s.setEntry i e).count d = s.count d := rfl
@[simp] theorem State.setEntry_link (i : EntryIndex) (e : Entry) (q : PortName) (s : State) : (s.setEntry i e).link q = s.link q := rfl
@[simp] theorem State.setEntry_epochLength (i : EntryIndex) (e : Entry) (s : State) : (s.setEntry i e).epochLength = s.epochLength := rfl
@[simp] theorem State.setEntry_tableInForce (i : EntryIndex) (e : Entry) (s : State) : (s.setEntry i e).tableInForce = s.tableInForce := rfl
@[simp] theorem State.joinReturns_heldInReset (i : EntryIndex) (s : State) : (s.joinReturns i).heldInReset = s.heldInReset := rfl
@[simp] theorem State.joinReturns_now (i : EntryIndex) (s : State) : (s.joinReturns i).now = s.now := rfl
@[simp] theorem State.joinReturns_epoch (i : EntryIndex) (s : State) : (s.joinReturns i).epoch = s.epoch := rfl
@[simp] theorem State.joinReturns_table (i : EntryIndex) (s : State) : (s.joinReturns i).table = s.table := rfl
@[simp] theorem State.joinReturns_resetCause (i : EntryIndex) (s : State) : (s.joinReturns i).resetCause = s.resetCause := rfl
@[simp] theorem State.joinReturns_active (i : EntryIndex) (s : State) : (s.joinReturns i).active = s.active := rfl
@[simp] theorem State.joinReturns_shadow (i : EntryIndex) (s : State) : (s.joinReturns i).shadow = s.shadow := rfl
@[simp] theorem State.joinReturns_fallback (i : EntryIndex) (s : State) : (s.joinReturns i).fallback = s.fallback := rfl
@[simp] theorem State.joinReturns_commit (i : EntryIndex) (s : State) : (s.joinReturns i).commit = s.commit := rfl
@[simp] theorem State.joinReturns_holdQueue (i : EntryIndex) (s : State) : (s.joinReturns i).holdQueue = s.holdQueue := rfl
@[simp] theorem State.joinReturns_meters (i : EntryIndex) (s : State) : (s.joinReturns i).meters = s.meters := rfl
@[simp] theorem State.joinReturns_log (i : EntryIndex) (s : State) : (s.joinReturns i).log = s.log := rfl
@[simp] theorem State.joinReturns_events (i : EntryIndex) (s : State) : (s.joinReturns i).events = s.events := rfl
@[simp] theorem State.joinReturns_notice (i : EntryIndex) (s : State) : (s.joinReturns i).notice = s.notice := rfl
@[simp] theorem State.joinReturns_session (i : EntryIndex) (s : State) : (s.joinReturns i).session = s.session := rfl
@[simp] theorem State.joinReturns_control (i : EntryIndex) (s : State) : (s.joinReturns i).control = s.control := rfl
@[simp] theorem State.joinReturns_sPort_link (i : EntryIndex) (s : State) : (s.joinReturns i).sPort.link = s.sPort.link := rfl
@[simp] theorem State.joinReturns_sPort_replies (i : EntryIndex) (s : State) : (s.joinReturns i).sPort.replies = s.sPort.replies := rfl
@[simp] theorem State.joinReturns_sPort_slot (i : EntryIndex) (s : State) : (s.joinReturns i).sPort.slot = s.sPort.slot := rfl
@[simp] theorem State.joinReturns_sPort_refusals (i : EntryIndex) (s : State) : (s.joinReturns i).sPort.refusals = s.sPort.refusals := rfl
@[simp] theorem State.joinReturns_sPort_sending (i : EntryIndex) (s : State) : (s.joinReturns i).sPort.sending = s.sPort.sending := rfl
@[simp] theorem State.joinReturns_nPort (i : EntryIndex) (s : State) : (s.joinReturns i).nPort = s.nPort := rfl
@[simp] theorem State.joinReturns_counters (i : EntryIndex) (s : State) : (s.joinReturns i).counters = s.counters := rfl
@[simp] theorem State.joinReturns_choices (i : EntryIndex) (s : State) : (s.joinReturns i).choices = s.choices := rfl
@[simp] theorem State.joinReturns_pending (i : EntryIndex) (s : State) : (s.joinReturns i).pending = s.pending := rfl
@[simp] theorem State.joinReturns_entryState (i : EntryIndex) (j : EntryIndex) (s : State) : (s.joinReturns i).entryState j = s.entryState j := rfl
@[simp] theorem State.joinReturns_generation (i : EntryIndex) (j : EntryIndex) (s : State) : (s.joinReturns i).generation j = s.generation j := rfl
@[simp] theorem State.joinReturns_count (i : EntryIndex) (d : Counter) (s : State) : (s.joinReturns i).count d = s.count d := rfl
@[simp] theorem State.joinReturns_link (i : EntryIndex) (q : PortName) (s : State) : (s.joinReturns i).link q = s.link q := rfl
@[simp] theorem State.joinReturns_epochLength (i : EntryIndex) (s : State) : (s.joinReturns i).epochLength = s.epochLength := rfl
@[simp] theorem State.joinReturns_tableInForce (i : EntryIndex) (s : State) : (s.joinReturns i).tableInForce = s.tableInForce := rfl
@[simp] theorem State.joinNodeQueue_heldInReset (i : EntryIndex) (s : State) : (s.joinNodeQueue i).heldInReset = s.heldInReset := rfl
@[simp] theorem State.joinNodeQueue_now (i : EntryIndex) (s : State) : (s.joinNodeQueue i).now = s.now := rfl
@[simp] theorem State.joinNodeQueue_epoch (i : EntryIndex) (s : State) : (s.joinNodeQueue i).epoch = s.epoch := rfl
@[simp] theorem State.joinNodeQueue_table (i : EntryIndex) (s : State) : (s.joinNodeQueue i).table = s.table := rfl
@[simp] theorem State.joinNodeQueue_resetCause (i : EntryIndex) (s : State) : (s.joinNodeQueue i).resetCause = s.resetCause := rfl
@[simp] theorem State.joinNodeQueue_active (i : EntryIndex) (s : State) : (s.joinNodeQueue i).active = s.active := rfl
@[simp] theorem State.joinNodeQueue_shadow (i : EntryIndex) (s : State) : (s.joinNodeQueue i).shadow = s.shadow := rfl
@[simp] theorem State.joinNodeQueue_fallback (i : EntryIndex) (s : State) : (s.joinNodeQueue i).fallback = s.fallback := rfl
@[simp] theorem State.joinNodeQueue_commit (i : EntryIndex) (s : State) : (s.joinNodeQueue i).commit = s.commit := rfl
@[simp] theorem State.joinNodeQueue_holdQueue (i : EntryIndex) (s : State) : (s.joinNodeQueue i).holdQueue = s.holdQueue := rfl
@[simp] theorem State.joinNodeQueue_meters (i : EntryIndex) (s : State) : (s.joinNodeQueue i).meters = s.meters := rfl
@[simp] theorem State.joinNodeQueue_log (i : EntryIndex) (s : State) : (s.joinNodeQueue i).log = s.log := rfl
@[simp] theorem State.joinNodeQueue_events (i : EntryIndex) (s : State) : (s.joinNodeQueue i).events = s.events := rfl
@[simp] theorem State.joinNodeQueue_notice (i : EntryIndex) (s : State) : (s.joinNodeQueue i).notice = s.notice := rfl
@[simp] theorem State.joinNodeQueue_session (i : EntryIndex) (s : State) : (s.joinNodeQueue i).session = s.session := rfl
@[simp] theorem State.joinNodeQueue_control (i : EntryIndex) (s : State) : (s.joinNodeQueue i).control = s.control := rfl
@[simp] theorem State.joinNodeQueue_sPort (i : EntryIndex) (s : State) : (s.joinNodeQueue i).sPort = s.sPort := rfl
@[simp] theorem State.joinNodeQueue_nPort_link (i : EntryIndex) (s : State) : (s.joinNodeQueue i).nPort.link = s.nPort.link := rfl
@[simp] theorem State.joinNodeQueue_nPort_busy (i : EntryIndex) (s : State) : (s.joinNodeQueue i).nPort.busy = s.nPort.busy := rfl
@[simp] theorem State.joinNodeQueue_counters (i : EntryIndex) (s : State) : (s.joinNodeQueue i).counters = s.counters := rfl
@[simp] theorem State.joinNodeQueue_choices (i : EntryIndex) (s : State) : (s.joinNodeQueue i).choices = s.choices := rfl
@[simp] theorem State.joinNodeQueue_pending (i : EntryIndex) (s : State) : (s.joinNodeQueue i).pending = s.pending := rfl
@[simp] theorem State.joinNodeQueue_entryState (i : EntryIndex) (j : EntryIndex) (s : State) : (s.joinNodeQueue i).entryState j = s.entryState j := rfl
@[simp] theorem State.joinNodeQueue_generation (i : EntryIndex) (j : EntryIndex) (s : State) : (s.joinNodeQueue i).generation j = s.generation j := rfl
@[simp] theorem State.joinNodeQueue_count (i : EntryIndex) (d : Counter) (s : State) : (s.joinNodeQueue i).count d = s.count d := rfl
@[simp] theorem State.joinNodeQueue_link (i : EntryIndex) (q : PortName) (s : State) : (s.joinNodeQueue i).link q = s.link q := rfl
@[simp] theorem State.joinNodeQueue_epochLength (i : EntryIndex) (s : State) : (s.joinNodeQueue i).epochLength = s.epochLength := rfl
@[simp] theorem State.joinNodeQueue_tableInForce (i : EntryIndex) (s : State) : (s.joinNodeQueue i).tableInForce = s.tableInForce := rfl
@[simp] theorem State.dropHold_heldInReset (i : EntryIndex) (s : State) : (s.dropHold i).heldInReset = s.heldInReset := rfl
@[simp] theorem State.dropHold_now (i : EntryIndex) (s : State) : (s.dropHold i).now = s.now := rfl
@[simp] theorem State.dropHold_epoch (i : EntryIndex) (s : State) : (s.dropHold i).epoch = s.epoch := rfl
@[simp] theorem State.dropHold_table (i : EntryIndex) (s : State) : (s.dropHold i).table = s.table := rfl
@[simp] theorem State.dropHold_resetCause (i : EntryIndex) (s : State) : (s.dropHold i).resetCause = s.resetCause := rfl
@[simp] theorem State.dropHold_active (i : EntryIndex) (s : State) : (s.dropHold i).active = s.active := rfl
@[simp] theorem State.dropHold_shadow (i : EntryIndex) (s : State) : (s.dropHold i).shadow = s.shadow := rfl
@[simp] theorem State.dropHold_fallback (i : EntryIndex) (s : State) : (s.dropHold i).fallback = s.fallback := rfl
@[simp] theorem State.dropHold_commit (i : EntryIndex) (s : State) : (s.dropHold i).commit = s.commit := rfl
@[simp] theorem State.dropHold_meters (i : EntryIndex) (s : State) : (s.dropHold i).meters = s.meters := rfl
@[simp] theorem State.dropHold_log (i : EntryIndex) (s : State) : (s.dropHold i).log = s.log := rfl
@[simp] theorem State.dropHold_events (i : EntryIndex) (s : State) : (s.dropHold i).events = s.events := rfl
@[simp] theorem State.dropHold_notice (i : EntryIndex) (s : State) : (s.dropHold i).notice = s.notice := rfl
@[simp] theorem State.dropHold_session (i : EntryIndex) (s : State) : (s.dropHold i).session = s.session := rfl
@[simp] theorem State.dropHold_control (i : EntryIndex) (s : State) : (s.dropHold i).control = s.control := rfl
@[simp] theorem State.dropHold_sPort (i : EntryIndex) (s : State) : (s.dropHold i).sPort = s.sPort := rfl
@[simp] theorem State.dropHold_nPort (i : EntryIndex) (s : State) : (s.dropHold i).nPort = s.nPort := rfl
@[simp] theorem State.dropHold_counters (i : EntryIndex) (s : State) : (s.dropHold i).counters = s.counters := rfl
@[simp] theorem State.dropHold_choices (i : EntryIndex) (s : State) : (s.dropHold i).choices = s.choices := rfl
@[simp] theorem State.dropHold_pending (i : EntryIndex) (s : State) : (s.dropHold i).pending = s.pending := rfl
@[simp] theorem State.dropHold_entryState (i : EntryIndex) (j : EntryIndex) (s : State) : (s.dropHold i).entryState j = s.entryState j := rfl
@[simp] theorem State.dropHold_generation (i : EntryIndex) (j : EntryIndex) (s : State) : (s.dropHold i).generation j = s.generation j := rfl
@[simp] theorem State.dropHold_count (i : EntryIndex) (d : Counter) (s : State) : (s.dropHold i).count d = s.count d := rfl
@[simp] theorem State.dropHold_link (i : EntryIndex) (q : PortName) (s : State) : (s.dropHold i).link q = s.link q := rfl
@[simp] theorem State.dropHold_epochLength (i : EntryIndex) (s : State) : (s.dropHold i).epochLength = s.epochLength := rfl
@[simp] theorem State.dropHold_tableInForce (i : EntryIndex) (s : State) : (s.dropHold i).tableInForce = s.tableInForce := rfl
@[simp] theorem State.pushReply_heldInReset (r : Reply) (s : State) : (s.pushReply r).heldInReset = s.heldInReset := rfl
@[simp] theorem State.pushReply_now (r : Reply) (s : State) : (s.pushReply r).now = s.now := rfl
@[simp] theorem State.pushReply_epoch (r : Reply) (s : State) : (s.pushReply r).epoch = s.epoch := rfl
@[simp] theorem State.pushReply_table (r : Reply) (s : State) : (s.pushReply r).table = s.table := rfl
@[simp] theorem State.pushReply_resetCause (r : Reply) (s : State) : (s.pushReply r).resetCause = s.resetCause := rfl
@[simp] theorem State.pushReply_active (r : Reply) (s : State) : (s.pushReply r).active = s.active := rfl
@[simp] theorem State.pushReply_shadow (r : Reply) (s : State) : (s.pushReply r).shadow = s.shadow := rfl
@[simp] theorem State.pushReply_fallback (r : Reply) (s : State) : (s.pushReply r).fallback = s.fallback := rfl
@[simp] theorem State.pushReply_commit (r : Reply) (s : State) : (s.pushReply r).commit = s.commit := rfl
@[simp] theorem State.pushReply_holdQueue (r : Reply) (s : State) : (s.pushReply r).holdQueue = s.holdQueue := rfl
@[simp] theorem State.pushReply_meters (r : Reply) (s : State) : (s.pushReply r).meters = s.meters := rfl
@[simp] theorem State.pushReply_log (r : Reply) (s : State) : (s.pushReply r).log = s.log := rfl
@[simp] theorem State.pushReply_events (r : Reply) (s : State) : (s.pushReply r).events = s.events := rfl
@[simp] theorem State.pushReply_notice (r : Reply) (s : State) : (s.pushReply r).notice = s.notice := rfl
@[simp] theorem State.pushReply_session (r : Reply) (s : State) : (s.pushReply r).session = s.session := rfl
@[simp] theorem State.pushReply_control (r : Reply) (s : State) : (s.pushReply r).control = s.control := rfl
@[simp] theorem State.pushReply_sPort_link (r : Reply) (s : State) : (s.pushReply r).sPort.link = s.sPort.link := rfl
@[simp] theorem State.pushReply_sPort_slot (r : Reply) (s : State) : (s.pushReply r).sPort.slot = s.sPort.slot := rfl
@[simp] theorem State.pushReply_sPort_returns (r : Reply) (s : State) : (s.pushReply r).sPort.returns = s.sPort.returns := rfl
@[simp] theorem State.pushReply_sPort_refusals (r : Reply) (s : State) : (s.pushReply r).sPort.refusals = s.sPort.refusals := rfl
@[simp] theorem State.pushReply_sPort_sending (r : Reply) (s : State) : (s.pushReply r).sPort.sending = s.sPort.sending := rfl
@[simp] theorem State.pushReply_nPort (r : Reply) (s : State) : (s.pushReply r).nPort = s.nPort := rfl
@[simp] theorem State.pushReply_counters (r : Reply) (s : State) : (s.pushReply r).counters = s.counters := rfl
@[simp] theorem State.pushReply_choices (r : Reply) (s : State) : (s.pushReply r).choices = s.choices := rfl
@[simp] theorem State.pushReply_pending (r : Reply) (s : State) : (s.pushReply r).pending = s.pending := rfl
@[simp] theorem State.pushReply_entryState (r : Reply) (j : EntryIndex) (s : State) : (s.pushReply r).entryState j = s.entryState j := rfl
@[simp] theorem State.pushReply_generation (r : Reply) (j : EntryIndex) (s : State) : (s.pushReply r).generation j = s.generation j := rfl
@[simp] theorem State.pushReply_count (r : Reply) (d : Counter) (s : State) : (s.pushReply r).count d = s.count d := rfl
@[simp] theorem State.pushReply_link (r : Reply) (q : PortName) (s : State) : (s.pushReply r).link q = s.link q := rfl
@[simp] theorem State.pushReply_epochLength (r : Reply) (s : State) : (s.pushReply r).epochLength = s.epochLength := rfl
@[simp] theorem State.pushReply_tableInForce (r : Reply) (s : State) : (s.pushReply r).tableInForce = s.tableInForce := rfl
@[simp] theorem State.loadLiveness_heldInReset (s : State) : (s.loadLiveness).heldInReset = s.heldInReset := rfl
@[simp] theorem State.loadLiveness_now (s : State) : (s.loadLiveness).now = s.now := rfl
@[simp] theorem State.loadLiveness_epoch (s : State) : (s.loadLiveness).epoch = s.epoch := rfl
@[simp] theorem State.loadLiveness_table (s : State) : (s.loadLiveness).table = s.table := rfl
@[simp] theorem State.loadLiveness_resetCause (s : State) : (s.loadLiveness).resetCause = s.resetCause := rfl
@[simp] theorem State.loadLiveness_active (s : State) : (s.loadLiveness).active = s.active := rfl
@[simp] theorem State.loadLiveness_shadow (s : State) : (s.loadLiveness).shadow = s.shadow := rfl
@[simp] theorem State.loadLiveness_fallback (s : State) : (s.loadLiveness).fallback = s.fallback := rfl
@[simp] theorem State.loadLiveness_commit (s : State) : (s.loadLiveness).commit = s.commit := rfl
@[simp] theorem State.loadLiveness_holdQueue (s : State) : (s.loadLiveness).holdQueue = s.holdQueue := rfl
@[simp] theorem State.loadLiveness_meters (s : State) : (s.loadLiveness).meters = s.meters := rfl
@[simp] theorem State.loadLiveness_log (s : State) : (s.loadLiveness).log = s.log := rfl
@[simp] theorem State.loadLiveness_events (s : State) : (s.loadLiveness).events = s.events := rfl
@[simp] theorem State.loadLiveness_notice (s : State) : (s.loadLiveness).notice = s.notice := rfl
@[simp] theorem State.loadLiveness_session (s : State) : (s.loadLiveness).session = s.session := rfl
@[simp] theorem State.loadLiveness_control_mode (s : State) : (s.loadLiveness).control.mode = s.control.mode := rfl
@[simp] theorem State.loadLiveness_control_period (s : State) : (s.loadLiveness).control.period = s.control.period := rfl
@[simp] theorem State.loadLiveness_control_fallbackRecord (s : State) : (s.loadLiveness).control.fallbackRecord = s.control.fallbackRecord := rfl
@[simp] theorem State.loadLiveness_control_ownAddress (s : State) : (s.loadLiveness).control.ownAddress = s.control.ownAddress := rfl
@[simp] theorem State.loadLiveness_control_strapFault (s : State) : (s.loadLiveness).control.strapFault = s.control.strapFault := rfl
@[simp] theorem State.loadLiveness_control_start (s : State) : (s.loadLiveness).control.start = s.control.start := rfl
@[simp] theorem State.loadLiveness_sPort (s : State) : (s.loadLiveness).sPort = s.sPort := rfl
@[simp] theorem State.loadLiveness_nPort (s : State) : (s.loadLiveness).nPort = s.nPort := rfl
@[simp] theorem State.loadLiveness_counters (s : State) : (s.loadLiveness).counters = s.counters := rfl
@[simp] theorem State.loadLiveness_choices (s : State) : (s.loadLiveness).choices = s.choices := rfl
@[simp] theorem State.loadLiveness_pending (s : State) : (s.loadLiveness).pending = s.pending := rfl
@[simp] theorem State.loadLiveness_entryState (j : EntryIndex) (s : State) : (s.loadLiveness).entryState j = s.entryState j := rfl
@[simp] theorem State.loadLiveness_generation (j : EntryIndex) (s : State) : (s.loadLiveness).generation j = s.generation j := rfl
@[simp] theorem State.loadLiveness_count (d : Counter) (s : State) : (s.loadLiveness).count d = s.count d := rfl
@[simp] theorem State.loadLiveness_link (q : PortName) (s : State) : (s.loadLiveness).link q = s.link q := rfl
@[simp] theorem State.loadLiveness_epochLength (s : State) : (s.loadLiveness).epochLength = s.epochLength := rfl
@[simp] theorem State.loadLiveness_tableInForce (s : State) : (s.loadLiveness).tableInForce = s.tableInForce := rfl
@[simp] theorem State.setMeter_heldInReset (m : Fin Config.meters) (x : Meter) (s : State) : (s.setMeter m x).heldInReset = s.heldInReset := rfl
@[simp] theorem State.setMeter_now (m : Fin Config.meters) (x : Meter) (s : State) : (s.setMeter m x).now = s.now := rfl
@[simp] theorem State.setMeter_epoch (m : Fin Config.meters) (x : Meter) (s : State) : (s.setMeter m x).epoch = s.epoch := rfl
@[simp] theorem State.setMeter_table (m : Fin Config.meters) (x : Meter) (s : State) : (s.setMeter m x).table = s.table := rfl
@[simp] theorem State.setMeter_resetCause (m : Fin Config.meters) (x : Meter) (s : State) : (s.setMeter m x).resetCause = s.resetCause := rfl
@[simp] theorem State.setMeter_active (m : Fin Config.meters) (x : Meter) (s : State) : (s.setMeter m x).active = s.active := rfl
@[simp] theorem State.setMeter_shadow (m : Fin Config.meters) (x : Meter) (s : State) : (s.setMeter m x).shadow = s.shadow := rfl
@[simp] theorem State.setMeter_fallback (m : Fin Config.meters) (x : Meter) (s : State) : (s.setMeter m x).fallback = s.fallback := rfl
@[simp] theorem State.setMeter_commit (m : Fin Config.meters) (x : Meter) (s : State) : (s.setMeter m x).commit = s.commit := rfl
@[simp] theorem State.setMeter_holdQueue (m : Fin Config.meters) (x : Meter) (s : State) : (s.setMeter m x).holdQueue = s.holdQueue := rfl
@[simp] theorem State.setMeter_log (m : Fin Config.meters) (x : Meter) (s : State) : (s.setMeter m x).log = s.log := rfl
@[simp] theorem State.setMeter_events (m : Fin Config.meters) (x : Meter) (s : State) : (s.setMeter m x).events = s.events := rfl
@[simp] theorem State.setMeter_notice (m : Fin Config.meters) (x : Meter) (s : State) : (s.setMeter m x).notice = s.notice := rfl
@[simp] theorem State.setMeter_session (m : Fin Config.meters) (x : Meter) (s : State) : (s.setMeter m x).session = s.session := rfl
@[simp] theorem State.setMeter_control (m : Fin Config.meters) (x : Meter) (s : State) : (s.setMeter m x).control = s.control := rfl
@[simp] theorem State.setMeter_sPort (m : Fin Config.meters) (x : Meter) (s : State) : (s.setMeter m x).sPort = s.sPort := rfl
@[simp] theorem State.setMeter_nPort (m : Fin Config.meters) (x : Meter) (s : State) : (s.setMeter m x).nPort = s.nPort := rfl
@[simp] theorem State.setMeter_counters (m : Fin Config.meters) (x : Meter) (s : State) : (s.setMeter m x).counters = s.counters := rfl
@[simp] theorem State.setMeter_choices (m : Fin Config.meters) (x : Meter) (s : State) : (s.setMeter m x).choices = s.choices := rfl
@[simp] theorem State.setMeter_pending (m : Fin Config.meters) (x : Meter) (s : State) : (s.setMeter m x).pending = s.pending := rfl
@[simp] theorem State.setMeter_entryState (m : Fin Config.meters) (x : Meter) (j : EntryIndex) (s : State) : (s.setMeter m x).entryState j = s.entryState j := rfl
@[simp] theorem State.setMeter_generation (m : Fin Config.meters) (x : Meter) (j : EntryIndex) (s : State) : (s.setMeter m x).generation j = s.generation j := rfl
@[simp] theorem State.setMeter_count (m : Fin Config.meters) (x : Meter) (d : Counter) (s : State) : (s.setMeter m x).count d = s.count d := rfl
@[simp] theorem State.setMeter_link (m : Fin Config.meters) (x : Meter) (q : PortName) (s : State) : (s.setMeter m x).link q = s.link q := rfl
@[simp] theorem State.setMeter_epochLength (m : Fin Config.meters) (x : Meter) (s : State) : (s.setMeter m x).epochLength = s.epochLength := rfl
@[simp] theorem State.setMeter_tableInForce (m : Fin Config.meters) (x : Meter) (s : State) : (s.setMeter m x).tableInForce = s.tableInForce := rfl
@[simp] theorem State.setSending_heldInReset (x : Option Sending) (s : State) : (s.setSending x).heldInReset = s.heldInReset := rfl
@[simp] theorem State.setSending_now (x : Option Sending) (s : State) : (s.setSending x).now = s.now := rfl
@[simp] theorem State.setSending_epoch (x : Option Sending) (s : State) : (s.setSending x).epoch = s.epoch := rfl
@[simp] theorem State.setSending_table (x : Option Sending) (s : State) : (s.setSending x).table = s.table := rfl
@[simp] theorem State.setSending_resetCause (x : Option Sending) (s : State) : (s.setSending x).resetCause = s.resetCause := rfl
@[simp] theorem State.setSending_active (x : Option Sending) (s : State) : (s.setSending x).active = s.active := rfl
@[simp] theorem State.setSending_shadow (x : Option Sending) (s : State) : (s.setSending x).shadow = s.shadow := rfl
@[simp] theorem State.setSending_fallback (x : Option Sending) (s : State) : (s.setSending x).fallback = s.fallback := rfl
@[simp] theorem State.setSending_commit (x : Option Sending) (s : State) : (s.setSending x).commit = s.commit := rfl
@[simp] theorem State.setSending_holdQueue (x : Option Sending) (s : State) : (s.setSending x).holdQueue = s.holdQueue := rfl
@[simp] theorem State.setSending_meters (x : Option Sending) (s : State) : (s.setSending x).meters = s.meters := rfl
@[simp] theorem State.setSending_log (x : Option Sending) (s : State) : (s.setSending x).log = s.log := rfl
@[simp] theorem State.setSending_events (x : Option Sending) (s : State) : (s.setSending x).events = s.events := rfl
@[simp] theorem State.setSending_notice (x : Option Sending) (s : State) : (s.setSending x).notice = s.notice := rfl
@[simp] theorem State.setSending_session (x : Option Sending) (s : State) : (s.setSending x).session = s.session := rfl
@[simp] theorem State.setSending_control (x : Option Sending) (s : State) : (s.setSending x).control = s.control := rfl
@[simp] theorem State.setSending_sPort_link (x : Option Sending) (s : State) : (s.setSending x).sPort.link = s.sPort.link := rfl
@[simp] theorem State.setSending_sPort_replies (x : Option Sending) (s : State) : (s.setSending x).sPort.replies = s.sPort.replies := rfl
@[simp] theorem State.setSending_sPort_slot (x : Option Sending) (s : State) : (s.setSending x).sPort.slot = s.sPort.slot := rfl
@[simp] theorem State.setSending_sPort_returns (x : Option Sending) (s : State) : (s.setSending x).sPort.returns = s.sPort.returns := rfl
@[simp] theorem State.setSending_sPort_refusals (x : Option Sending) (s : State) : (s.setSending x).sPort.refusals = s.sPort.refusals := rfl
@[simp] theorem State.setSending_nPort (x : Option Sending) (s : State) : (s.setSending x).nPort = s.nPort := rfl
@[simp] theorem State.setSending_counters (x : Option Sending) (s : State) : (s.setSending x).counters = s.counters := rfl
@[simp] theorem State.setSending_choices (x : Option Sending) (s : State) : (s.setSending x).choices = s.choices := rfl
@[simp] theorem State.setSending_pending (x : Option Sending) (s : State) : (s.setSending x).pending = s.pending := rfl
@[simp] theorem State.setSending_entryState (x : Option Sending) (j : EntryIndex) (s : State) : (s.setSending x).entryState j = s.entryState j := rfl
@[simp] theorem State.setSending_generation (x : Option Sending) (j : EntryIndex) (s : State) : (s.setSending x).generation j = s.generation j := rfl
@[simp] theorem State.setSending_count (x : Option Sending) (d : Counter) (s : State) : (s.setSending x).count d = s.count d := rfl
@[simp] theorem State.setSending_link (x : Option Sending) (q : PortName) (s : State) : (s.setSending x).link q = s.link q := rfl
@[simp] theorem State.setSending_epochLength (x : Option Sending) (s : State) : (s.setSending x).epochLength = s.epochLength := rfl
@[simp] theorem State.setSending_tableInForce (x : Option Sending) (s : State) : (s.setSending x).tableInForce = s.tableInForce := rfl
@[simp] theorem State.accept_heldInReset (p : PortName) (s : State) : (s.accept p).heldInReset = s.heldInReset := by cases p <;> rfl
@[simp] theorem State.accept_now (p : PortName) (s : State) : (s.accept p).now = s.now := by cases p <;> rfl
@[simp] theorem State.accept_epoch (p : PortName) (s : State) : (s.accept p).epoch = s.epoch := by cases p <;> rfl
@[simp] theorem State.accept_table (p : PortName) (s : State) : (s.accept p).table = s.table := by cases p <;> rfl
@[simp] theorem State.accept_resetCause (p : PortName) (s : State) : (s.accept p).resetCause = s.resetCause := by cases p <;> rfl
@[simp] theorem State.accept_active (p : PortName) (s : State) : (s.accept p).active = s.active := by cases p <;> rfl
@[simp] theorem State.accept_shadow (p : PortName) (s : State) : (s.accept p).shadow = s.shadow := by cases p <;> rfl
@[simp] theorem State.accept_fallback (p : PortName) (s : State) : (s.accept p).fallback = s.fallback := by cases p <;> rfl
@[simp] theorem State.accept_commit (p : PortName) (s : State) : (s.accept p).commit = s.commit := by cases p <;> rfl
@[simp] theorem State.accept_holdQueue (p : PortName) (s : State) : (s.accept p).holdQueue = s.holdQueue := by cases p <;> rfl
@[simp] theorem State.accept_meters (p : PortName) (s : State) : (s.accept p).meters = s.meters := by cases p <;> rfl
@[simp] theorem State.accept_log (p : PortName) (s : State) : (s.accept p).log = s.log := by cases p <;> rfl
@[simp] theorem State.accept_events (p : PortName) (s : State) : (s.accept p).events = s.events := by cases p <;> rfl
@[simp] theorem State.accept_notice (p : PortName) (s : State) : (s.accept p).notice = s.notice := by cases p <;> rfl
@[simp] theorem State.accept_session (p : PortName) (s : State) : (s.accept p).session = s.session := by cases p <;> rfl
@[simp] theorem State.accept_control (p : PortName) (s : State) : (s.accept p).control = s.control := by cases p <;> rfl
@[simp] theorem State.accept_sPort_replies (p : PortName) (s : State) : (s.accept p).sPort.replies = s.sPort.replies := by cases p <;> rfl
@[simp] theorem State.accept_sPort_slot (p : PortName) (s : State) : (s.accept p).sPort.slot = s.sPort.slot := by cases p <;> rfl
@[simp] theorem State.accept_sPort_returns (p : PortName) (s : State) : (s.accept p).sPort.returns = s.sPort.returns := by cases p <;> rfl
@[simp] theorem State.accept_sPort_refusals (p : PortName) (s : State) : (s.accept p).sPort.refusals = s.sPort.refusals := by cases p <;> rfl
@[simp] theorem State.accept_sPort_sending (p : PortName) (s : State) : (s.accept p).sPort.sending = s.sPort.sending := by cases p <;> rfl
@[simp] theorem State.accept_nPort_queue (p : PortName) (s : State) : (s.accept p).nPort.queue = s.nPort.queue := by cases p <;> rfl
@[simp] theorem State.accept_nPort_busy (p : PortName) (s : State) : (s.accept p).nPort.busy = s.nPort.busy := by cases p <;> rfl
@[simp] theorem State.accept_counters_nextGroup (p : PortName) (s : State) : (s.accept p).counters.nextGroup = s.counters.nextGroup := by cases p <;> rfl
@[simp] theorem State.accept_choices (p : PortName) (s : State) : (s.accept p).choices = s.choices := by cases p <;> rfl
@[simp] theorem State.accept_pending (p : PortName) (s : State) : (s.accept p).pending = s.pending := by cases p <;> rfl
@[simp] theorem State.accept_entryState (p : PortName) (j : EntryIndex) (s : State) : (s.accept p).entryState j = s.entryState j := by cases p <;> rfl
@[simp] theorem State.accept_generation (p : PortName) (j : EntryIndex) (s : State) : (s.accept p).generation j = s.generation j := by cases p <;> rfl
@[simp] theorem State.accept_epochLength (p : PortName) (s : State) : (s.accept p).epochLength = s.epochLength := by cases p <;> rfl
@[simp] theorem State.accept_tableInForce (p : PortName) (s : State) : (s.accept p).tableInForce = s.tableInForce := by cases p <;> rfl
@[simp] theorem State.settle_heldInReset (s : State) : (s.settle).heldInReset = s.heldInReset := rfl
@[simp] theorem State.settle_now (s : State) : (s.settle).now = s.now := rfl
@[simp] theorem State.settle_epoch (s : State) : (s.settle).epoch = s.epoch := rfl
@[simp] theorem State.settle_table (s : State) : (s.settle).table = s.table := rfl
@[simp] theorem State.settle_resetCause (s : State) : (s.settle).resetCause = s.resetCause := rfl
@[simp] theorem State.settle_active (s : State) : (s.settle).active = s.active := rfl
@[simp] theorem State.settle_shadow (s : State) : (s.settle).shadow = s.shadow := rfl
@[simp] theorem State.settle_fallback (s : State) : (s.settle).fallback = s.fallback := rfl
@[simp] theorem State.settle_commit (s : State) : (s.settle).commit = s.commit := rfl
@[simp] theorem State.settle_holdQueue (s : State) : (s.settle).holdQueue = s.holdQueue := rfl
@[simp] theorem State.settle_meters (s : State) : (s.settle).meters = s.meters := rfl
@[simp] theorem State.settle_log (s : State) : (s.settle).log = s.log := rfl
@[simp] theorem State.settle_events (s : State) : (s.settle).events = s.events := rfl
@[simp] theorem State.settle_notice (s : State) : (s.settle).notice = s.notice := rfl
@[simp] theorem State.settle_session (s : State) : (s.settle).session = s.session := rfl
@[simp] theorem State.settle_control (s : State) : (s.settle).control = s.control := rfl
@[simp] theorem State.settle_sPort_link (s : State) : (s.settle).sPort.link = s.sPort.link := rfl
@[simp] theorem State.settle_sPort_replies (s : State) : (s.settle).sPort.replies = s.sPort.replies := rfl
@[simp] theorem State.settle_sPort_slot (s : State) : (s.settle).sPort.slot = s.sPort.slot := rfl
@[simp] theorem State.settle_sPort_returns (s : State) : (s.settle).sPort.returns = s.sPort.returns := rfl
@[simp] theorem State.settle_sPort_refusals (s : State) : (s.settle).sPort.refusals = s.sPort.refusals := rfl
@[simp] theorem State.settle_nPort_link (s : State) : (s.settle).nPort.link = s.nPort.link := rfl
@[simp] theorem State.settle_nPort_queue (s : State) : (s.settle).nPort.queue = s.nPort.queue := rfl
@[simp] theorem State.settle_counters (s : State) : (s.settle).counters = s.counters := rfl
@[simp] theorem State.settle_choices (s : State) : (s.settle).choices = s.choices := rfl
@[simp] theorem State.settle_pending (s : State) : (s.settle).pending = s.pending := rfl
@[simp] theorem State.settle_entryState (j : EntryIndex) (s : State) : (s.settle).entryState j = s.entryState j := rfl
@[simp] theorem State.settle_generation (j : EntryIndex) (s : State) : (s.settle).generation j = s.generation j := rfl
@[simp] theorem State.settle_count (d : Counter) (s : State) : (s.settle).count d = s.count d := rfl
@[simp] theorem State.settle_link (q : PortName) (s : State) : (s.settle).link q = s.link q := rfl
@[simp] theorem State.settle_epochLength (s : State) : (s.settle).epochLength = s.epochLength := rfl
@[simp] theorem State.settle_tableInForce (s : State) : (s.settle).tableInForce = s.tableInForce := rfl@[simp] theorem State.setSender_heldInReset (n : NoticeSender) (slot : Option Notice) (s : State) : (s.setSender n slot).heldInReset = s.heldInReset := rfl
@[simp] theorem State.setSender_now (n : NoticeSender) (slot : Option Notice) (s : State) : (s.setSender n slot).now = s.now := rfl
@[simp] theorem State.setSender_epoch (n : NoticeSender) (slot : Option Notice) (s : State) : (s.setSender n slot).epoch = s.epoch := rfl
@[simp] theorem State.setSender_table (n : NoticeSender) (slot : Option Notice) (s : State) : (s.setSender n slot).table = s.table := rfl
@[simp] theorem State.setSender_resetCause (n : NoticeSender) (slot : Option Notice) (s : State) : (s.setSender n slot).resetCause = s.resetCause := rfl
@[simp] theorem State.setSender_active (n : NoticeSender) (slot : Option Notice) (s : State) : (s.setSender n slot).active = s.active := rfl
@[simp] theorem State.setSender_shadow (n : NoticeSender) (slot : Option Notice) (s : State) : (s.setSender n slot).shadow = s.shadow := rfl
@[simp] theorem State.setSender_fallback (n : NoticeSender) (slot : Option Notice) (s : State) : (s.setSender n slot).fallback = s.fallback := rfl
@[simp] theorem State.setSender_commit (n : NoticeSender) (slot : Option Notice) (s : State) : (s.setSender n slot).commit = s.commit := rfl
@[simp] theorem State.setSender_holdQueue (n : NoticeSender) (slot : Option Notice) (s : State) : (s.setSender n slot).holdQueue = s.holdQueue := rfl
@[simp] theorem State.setSender_meters (n : NoticeSender) (slot : Option Notice) (s : State) : (s.setSender n slot).meters = s.meters := rfl
@[simp] theorem State.setSender_log (n : NoticeSender) (slot : Option Notice) (s : State) : (s.setSender n slot).log = s.log := rfl
@[simp] theorem State.setSender_events (n : NoticeSender) (slot : Option Notice) (s : State) : (s.setSender n slot).events = s.events := rfl
@[simp] theorem State.setSender_session (n : NoticeSender) (slot : Option Notice) (s : State) : (s.setSender n slot).session = s.session := rfl
@[simp] theorem State.setSender_control (n : NoticeSender) (slot : Option Notice) (s : State) : (s.setSender n slot).control = s.control := rfl
@[simp] theorem State.setSender_sPort_link (n : NoticeSender) (slot : Option Notice) (s : State) : (s.setSender n slot).sPort.link = s.sPort.link := rfl
@[simp] theorem State.setSender_sPort_replies (n : NoticeSender) (slot : Option Notice) (s : State) : (s.setSender n slot).sPort.replies = s.sPort.replies := rfl
@[simp] theorem State.setSender_sPort_returns (n : NoticeSender) (slot : Option Notice) (s : State) : (s.setSender n slot).sPort.returns = s.sPort.returns := rfl
@[simp] theorem State.setSender_sPort_refusals (n : NoticeSender) (slot : Option Notice) (s : State) : (s.setSender n slot).sPort.refusals = s.sPort.refusals := rfl
@[simp] theorem State.setSender_sPort_sending (n : NoticeSender) (slot : Option Notice) (s : State) : (s.setSender n slot).sPort.sending = s.sPort.sending := rfl
@[simp] theorem State.setSender_nPort (n : NoticeSender) (slot : Option Notice) (s : State) : (s.setSender n slot).nPort = s.nPort := rfl
@[simp] theorem State.setSender_counters (n : NoticeSender) (slot : Option Notice) (s : State) : (s.setSender n slot).counters = s.counters := rfl
@[simp] theorem State.setSender_choices (n : NoticeSender) (slot : Option Notice) (s : State) : (s.setSender n slot).choices = s.choices := rfl
@[simp] theorem State.setSender_pending (n : NoticeSender) (slot : Option Notice) (s : State) : (s.setSender n slot).pending = s.pending := rfl
@[simp] theorem State.setSender_entryState (n : NoticeSender) (slot : Option Notice) (j : EntryIndex) (s : State) : (s.setSender n slot).entryState j = s.entryState j := rfl
@[simp] theorem State.setSender_generation (n : NoticeSender) (slot : Option Notice) (j : EntryIndex) (s : State) : (s.setSender n slot).generation j = s.generation j := rfl
@[simp] theorem State.setSender_count (n : NoticeSender) (slot : Option Notice) (d : Counter) (s : State) : (s.setSender n slot).count d = s.count d := rfl
@[simp] theorem State.setSender_link (n : NoticeSender) (slot : Option Notice) (q : PortName) (s : State) : (s.setSender n slot).link q = s.link q := rfl
@[simp] theorem State.setSender_epochLength (n : NoticeSender) (slot : Option Notice) (s : State) : (s.setSender n slot).epochLength = s.epochLength := rfl
@[simp] theorem State.setSender_tableInForce (n : NoticeSender) (slot : Option Notice) (s : State) : (s.setSender n slot).tableInForce = s.tableInForce := rfl

/-! ### The fields an update changes -/

theorem Counter.index_inj {c d : Counter} : c.index = d.index ↔ c = d := by
  constructor
  · intro h
    cases c <;> cases d <;> first
      | rfl
      | (rename_i a b; cases a <;> cases b <;> first | rfl | (exact absurd h (by decide)))
      | (rename_i a; cases a <;> exact absurd h (by decide))
      | exact absurd h (by decide)
  · rintro rfl; rfl

@[simp] theorem State.bumpBy_count (n : Nat) (c d : Counter) (s : State) :
    (s.bumpBy n c).count d = if d = c then s.count c + BitVec.ofNat 32 n else s.count d := by
  unfold State.count State.bumpBy
  by_cases h : d = c
  · subst h; simp
  · have : ¬ c.index.val = d.index.val := fun e => h (Counter.index_inj.mp (Fin.ext e.symm))
    simp [h, this]

@[simp] theorem State.bump_eq (c : Counter) (s : State) : s.bump c = s.bumpBy 1 c := rfl

@[simp] theorem State.setLink_link (p q : PortName) (l : Link) (s : State) :
    (s.setLink p l).link q = if q = p then l else s.link q := by
  cases p <;> cases q <;> rfl

@[simp] theorem State.setLink_sPort_link (p : PortName) (l : Link) (s : State) :
    (s.setLink p l).sPort.link = if p = .station then l else s.sPort.link := by cases p <;> rfl

@[simp] theorem State.setLink_nPort_link (p : PortName) (l : Link) (s : State) :
    (s.setLink p l).nPort.link = if p = .node then l else s.nPort.link := by cases p <;> rfl

@[simp] theorem State.endReception_eq (p : PortName) (s : State) : s.endReception p = s.setLink p (.up none) := rfl

@[simp] theorem State.accept_link (p q : PortName) (s : State) :
    (s.accept p).link q = if q = p then .up none else s.link q := by simp [State.accept]

@[simp] theorem State.accept_sPort_link (p : PortName) (s : State) :
    (s.accept p).sPort.link = if p = .station then .up none else s.sPort.link := by simp [State.accept]

@[simp] theorem State.accept_nPort_link (p : PortName) (s : State) :
    (s.accept p).nPort.link = if p = .node then .up none else s.nPort.link := by simp [State.accept]

@[simp] theorem State.accept_count (p : PortName) (c : Counter) (s : State) :
    (s.accept p).count c = if c = .framesAccepted p then s.count c + 1 else s.count c := by
  simp [State.accept]; split <;> simp_all

@[simp] theorem State.setEntry_table (i j : EntryIndex) (e : Entry) (s : State) :
    (s.setEntry i e).table[j.val] = if j = i then e else s.table[j.val] := by
  simp only [State.setEntry, Vector.getElem_set, Fin.ext_iff, eq_comm]

@[simp] theorem State.setEntry_entryState (i j : EntryIndex) (e : Entry) (s : State) :
    (s.setEntry i e).entryState j = if j = i then e.state else s.entryState j := by
  simp only [State.entryState, Fin.getElem_fin, State.setEntry_table]; split <;> rfl

@[simp] theorem State.setEntry_generation (i j : EntryIndex) (e : Entry) (s : State) :
    (s.setEntry i e).generation j = if j = i then e.generation else s.generation j := by
  simp only [State.generation, Fin.getElem_fin, State.setEntry_table]; split <;> rfl

@[simp] theorem State.setEntryState_eq (i : EntryIndex) (st : EntryState) (s : State) :
    s.setEntryState i st = s.setEntry i ⟨s.generation i, st⟩ := rfl

@[simp] theorem State.setMeter_meters (m n : Fin Config.meters) (x : Meter) (s : State) :
    (s.setMeter m x).meters[n.val] = if n = m then x else s.meters[n.val] := by
  simp only [State.setMeter, Vector.getElem_set, Fin.ext_iff, eq_comm]

@[simp] theorem State.joinReturns_sPort_returns (i : EntryIndex) (s : State) :
    (s.joinReturns i).sPort.returns = s.sPort.returns ++ [i] := rfl

@[simp] theorem State.joinNodeQueue_nPort_queue (i : EntryIndex) (s : State) :
    (s.joinNodeQueue i).nPort.queue = s.nPort.queue ++ [i] := rfl

@[simp] theorem State.dropHold_holdQueue (i : EntryIndex) (s : State) :
    (s.dropHold i).holdQueue = s.holdQueue.filter fun r => r.index ≠ i := rfl

@[simp] theorem State.pushReply_sPort_replies (r : Reply) (s : State) :
    (s.pushReply r).sPort.replies = s.sPort.replies ++ [r] := rfl

@[simp] theorem State.loadLiveness_control_liveness (s : State) :
    s.loadLiveness.control.liveness = .running s.livenessDeadline := rfl

@[simp] theorem State.settle_sPort_sending (s : State) : s.settle.sPort.sending = s.sPort.arbitrated := rfl

@[simp] theorem State.settle_nPort_busy (s : State) : s.settle.nPort.busy = s.nPort.started := rfl

@[simp] theorem State.setSender_notice (n : NoticeSender) (slot : Option Notice) (s : State) :
    (s.setSender n slot).notice = n := rfl

@[simp] theorem State.setSender_sPort_slot (n : NoticeSender) (slot : Option Notice) (s : State) :
    (s.setSender n slot).sPort.slot = slot := rfl

@[simp] theorem State.setSending_sPort_sending (x : Option Sending) (s : State) :
    (s.setSending x).sPort.sending = x := rfl

@[simp] theorem State.withdrawNotice_notice_state (s : State) : s.withdrawNotice.notice.state = .idle := rfl

@[simp] theorem State.withdrawNotice_sPort_slot (s : State) : s.withdrawNotice.sPort.slot = none := rfl

end Sys2Proof.Machine
end

