-- ==== Sys2Proof/Laws/Ops.lean ====
section
/-! SUPPORT. What each shared operation leaves alone, field by field, and what it gives the fields it changes. -/
namespace Sys2Proof.Machine

@[simp] theorem State.evalNotice_heldInReset (s : State) : (s.evalNotice).heldInReset = s.heldInReset := by unfold State.evalNotice; split <;> rfl
@[simp] theorem State.evalNotice_now (s : State) : (s.evalNotice).now = s.now := by unfold State.evalNotice; split <;> rfl
@[simp] theorem State.evalNotice_epoch (s : State) : (s.evalNotice).epoch = s.epoch := by unfold State.evalNotice; split <;> rfl
@[simp] theorem State.evalNotice_table (s : State) : (s.evalNotice).table = s.table := by unfold State.evalNotice; split <;> rfl
@[simp] theorem State.evalNotice_resetCause (s : State) : (s.evalNotice).resetCause = s.resetCause := by unfold State.evalNotice; split <;> rfl
@[simp] theorem State.evalNotice_active (s : State) : (s.evalNotice).active = s.active := by unfold State.evalNotice; split <;> rfl
@[simp] theorem State.evalNotice_shadow (s : State) : (s.evalNotice).shadow = s.shadow := by unfold State.evalNotice; split <;> rfl
@[simp] theorem State.evalNotice_fallback (s : State) : (s.evalNotice).fallback = s.fallback := by unfold State.evalNotice; split <;> rfl
@[simp] theorem State.evalNotice_commit (s : State) : (s.evalNotice).commit = s.commit := by unfold State.evalNotice; split <;> rfl
@[simp] theorem State.evalNotice_holdQueue (s : State) : (s.evalNotice).holdQueue = s.holdQueue := by unfold State.evalNotice; split <;> rfl
@[simp] theorem State.evalNotice_meters (s : State) : (s.evalNotice).meters = s.meters := by unfold State.evalNotice; split <;> rfl
@[simp] theorem State.evalNotice_log (s : State) : (s.evalNotice).log = s.log := by unfold State.evalNotice; split <;> rfl
@[simp] theorem State.evalNotice_events (s : State) : (s.evalNotice).events = s.events := by unfold State.evalNotice; split <;> rfl
@[simp] theorem State.evalNotice_notice_interval (s : State) : (s.evalNotice).notice.interval = s.notice.interval := by unfold State.evalNotice; split <;> rfl
@[simp] theorem State.evalNotice_session (s : State) : (s.evalNotice).session = s.session := by unfold State.evalNotice; split <;> rfl
@[simp] theorem State.evalNotice_control (s : State) : (s.evalNotice).control = s.control := by unfold State.evalNotice; split <;> rfl
@[simp] theorem State.evalNotice_sPort_link (s : State) : (s.evalNotice).sPort.link = s.sPort.link := by unfold State.evalNotice; split <;> rfl
@[simp] theorem State.evalNotice_sPort_replies (s : State) : (s.evalNotice).sPort.replies = s.sPort.replies := by unfold State.evalNotice; split <;> rfl
@[simp] theorem State.evalNotice_sPort_returns (s : State) : (s.evalNotice).sPort.returns = s.sPort.returns := by unfold State.evalNotice; split <;> rfl
@[simp] theorem State.evalNotice_sPort_refusals (s : State) : (s.evalNotice).sPort.refusals = s.sPort.refusals := by unfold State.evalNotice; split <;> rfl
@[simp] theorem State.evalNotice_sPort_sending (s : State) : (s.evalNotice).sPort.sending = s.sPort.sending := by unfold State.evalNotice; split <;> rfl
@[simp] theorem State.evalNotice_nPort (s : State) : (s.evalNotice).nPort = s.nPort := by unfold State.evalNotice; split <;> rfl
@[simp] theorem State.evalNotice_counters (s : State) : (s.evalNotice).counters = s.counters := by unfold State.evalNotice; split <;> rfl
@[simp] theorem State.evalNotice_choices (s : State) : (s.evalNotice).choices = s.choices := by unfold State.evalNotice; split <;> rfl
@[simp] theorem State.evalNotice_pending (s : State) : (s.evalNotice).pending = s.pending := by unfold State.evalNotice; split <;> rfl
@[simp] theorem State.evalNotice_entryState (j : EntryIndex) (s : State) : (s.evalNotice).entryState j = s.entryState j := by unfold State.evalNotice; split <;> rfl
@[simp] theorem State.evalNotice_generation (j : EntryIndex) (s : State) : (s.evalNotice).generation j = s.generation j := by unfold State.evalNotice; split <;> rfl
@[simp] theorem State.evalNotice_count (d : Counter) (s : State) : (s.evalNotice).count d = s.count d := by unfold State.evalNotice; split <;> rfl
@[simp] theorem State.evalNotice_link (q : PortName) (s : State) : (s.evalNotice).link q = s.link q := by unfold State.evalNotice; split <;> rfl
@[simp] theorem State.evalNotice_epochLength (s : State) : (s.evalNotice).epochLength = s.epochLength := by unfold State.evalNotice; split <;> rfl
@[simp] theorem State.evalNotice_tableInForce (s : State) : (s.evalNotice).tableInForce = s.tableInForce := by unfold State.evalNotice; split <;> rfl
@[simp] theorem State.setStatus_heldInReset (k : EventKind) (s : State) : (s.setStatus k).heldInReset = s.heldInReset := State.evalNotice_heldInReset _
@[simp] theorem State.setStatus_now (k : EventKind) (s : State) : (s.setStatus k).now = s.now := State.evalNotice_now _
@[simp] theorem State.setStatus_epoch (k : EventKind) (s : State) : (s.setStatus k).epoch = s.epoch := State.evalNotice_epoch _
@[simp] theorem State.setStatus_table (k : EventKind) (s : State) : (s.setStatus k).table = s.table := State.evalNotice_table _
@[simp] theorem State.setStatus_resetCause (k : EventKind) (s : State) : (s.setStatus k).resetCause = s.resetCause := State.evalNotice_resetCause _
@[simp] theorem State.setStatus_active (k : EventKind) (s : State) : (s.setStatus k).active = s.active := State.evalNotice_active _
@[simp] theorem State.setStatus_shadow (k : EventKind) (s : State) : (s.setStatus k).shadow = s.shadow := State.evalNotice_shadow _
@[simp] theorem State.setStatus_fallback (k : EventKind) (s : State) : (s.setStatus k).fallback = s.fallback := State.evalNotice_fallback _
@[simp] theorem State.setStatus_commit (k : EventKind) (s : State) : (s.setStatus k).commit = s.commit := State.evalNotice_commit _
@[simp] theorem State.setStatus_holdQueue (k : EventKind) (s : State) : (s.setStatus k).holdQueue = s.holdQueue := State.evalNotice_holdQueue _
@[simp] theorem State.setStatus_meters (k : EventKind) (s : State) : (s.setStatus k).meters = s.meters := State.evalNotice_meters _
@[simp] theorem State.setStatus_log (k : EventKind) (s : State) : (s.setStatus k).log = s.log := State.evalNotice_log _
@[simp] theorem State.setStatus_events_enable (k : EventKind) (s : State) : (s.setStatus k).events.enable = s.events.enable := congrArg (·.enable) (State.evalNotice_events _)
@[simp] theorem State.setStatus_events_line (k : EventKind) (s : State) : (s.setStatus k).events.line = s.events.line := congrArg (·.line) (State.evalNotice_events _)
@[simp] theorem State.setStatus_notice_interval (k : EventKind) (s : State) : (s.setStatus k).notice.interval = s.notice.interval := State.evalNotice_notice_interval _
@[simp] theorem State.setStatus_session (k : EventKind) (s : State) : (s.setStatus k).session = s.session := State.evalNotice_session _
@[simp] theorem State.setStatus_control (k : EventKind) (s : State) : (s.setStatus k).control = s.control := State.evalNotice_control _
@[simp] theorem State.setStatus_sPort_link (k : EventKind) (s : State) : (s.setStatus k).sPort.link = s.sPort.link := State.evalNotice_sPort_link _
@[simp] theorem State.setStatus_sPort_replies (k : EventKind) (s : State) : (s.setStatus k).sPort.replies = s.sPort.replies := State.evalNotice_sPort_replies _
@[simp] theorem State.setStatus_sPort_returns (k : EventKind) (s : State) : (s.setStatus k).sPort.returns = s.sPort.returns := State.evalNotice_sPort_returns _
@[simp] theorem State.setStatus_sPort_refusals (k : EventKind) (s : State) : (s.setStatus k).sPort.refusals = s.sPort.refusals := State.evalNotice_sPort_refusals _
@[simp] theorem State.setStatus_sPort_sending (k : EventKind) (s : State) : (s.setStatus k).sPort.sending = s.sPort.sending := State.evalNotice_sPort_sending _
@[simp] theorem State.setStatus_nPort (k : EventKind) (s : State) : (s.setStatus k).nPort = s.nPort := State.evalNotice_nPort _
@[simp] theorem State.setStatus_counters (k : EventKind) (s : State) : (s.setStatus k).counters = s.counters := State.evalNotice_counters _
@[simp] theorem State.setStatus_choices (k : EventKind) (s : State) : (s.setStatus k).choices = s.choices := State.evalNotice_choices _
@[simp] theorem State.setStatus_pending (k : EventKind) (s : State) : (s.setStatus k).pending = s.pending := State.evalNotice_pending _
@[simp] theorem State.setStatus_entryState (k : EventKind) (j : EntryIndex) (s : State) : (s.setStatus k).entryState j = s.entryState j := State.evalNotice_entryState j _
@[simp] theorem State.setStatus_generation (k : EventKind) (j : EntryIndex) (s : State) : (s.setStatus k).generation j = s.generation j := State.evalNotice_generation j _
@[simp] theorem State.setStatus_count (k : EventKind) (d : Counter) (s : State) : (s.setStatus k).count d = s.count d := State.evalNotice_count d _
@[simp] theorem State.setStatus_link (k : EventKind) (q : PortName) (s : State) : (s.setStatus k).link q = s.link q := State.evalNotice_link q _
@[simp] theorem State.setStatus_epochLength (k : EventKind) (s : State) : (s.setStatus k).epochLength = s.epochLength := State.evalNotice_epochLength _
@[simp] theorem State.setStatus_tableInForce (k : EventKind) (s : State) : (s.setStatus k).tableInForce = s.tableInForce := State.evalNotice_tableInForce _
@[simp] theorem State.followHolds_heldInReset (s : State) : (s.followHolds).heldInReset = s.heldInReset := by unfold State.followHolds; (repeat' split) <;> simp
@[simp] theorem State.followHolds_now (s : State) : (s.followHolds).now = s.now := by unfold State.followHolds; (repeat' split) <;> simp
@[simp] theorem State.followHolds_epoch (s : State) : (s.followHolds).epoch = s.epoch := by unfold State.followHolds; (repeat' split) <;> simp
@[simp] theorem State.followHolds_table (s : State) : (s.followHolds).table = s.table := by unfold State.followHolds; (repeat' split) <;> simp
@[simp] theorem State.followHolds_resetCause (s : State) : (s.followHolds).resetCause = s.resetCause := by unfold State.followHolds; (repeat' split) <;> simp
@[simp] theorem State.followHolds_active (s : State) : (s.followHolds).active = s.active := by unfold State.followHolds; (repeat' split) <;> simp
@[simp] theorem State.followHolds_shadow (s : State) : (s.followHolds).shadow = s.shadow := by unfold State.followHolds; (repeat' split) <;> simp
@[simp] theorem State.followHolds_fallback (s : State) : (s.followHolds).fallback = s.fallback := by unfold State.followHolds; (repeat' split) <;> simp
@[simp] theorem State.followHolds_commit (s : State) : (s.followHolds).commit = s.commit := by unfold State.followHolds; (repeat' split) <;> simp
@[simp] theorem State.followHolds_holdQueue (s : State) : (s.followHolds).holdQueue = s.holdQueue := by unfold State.followHolds; (repeat' split) <;> simp
@[simp] theorem State.followHolds_meters (s : State) : (s.followHolds).meters = s.meters := by unfold State.followHolds; (repeat' split) <;> simp
@[simp] theorem State.followHolds_log (s : State) : (s.followHolds).log = s.log := by unfold State.followHolds; (repeat' split) <;> simp
@[simp] theorem State.followHolds_events_enable (s : State) : (s.followHolds).events.enable = s.events.enable := by unfold State.followHolds; (repeat' split) <;> simp
@[simp] theorem State.followHolds_events_line (s : State) : (s.followHolds).events.line = s.events.line := by unfold State.followHolds; (repeat' split) <;> simp
@[simp] theorem State.followHolds_notice_interval (s : State) : (s.followHolds).notice.interval = s.notice.interval := by unfold State.followHolds; (repeat' split) <;> simp
@[simp] theorem State.followHolds_session (s : State) : (s.followHolds).session = s.session := by unfold State.followHolds; (repeat' split) <;> simp
@[simp] theorem State.followHolds_control (s : State) : (s.followHolds).control = s.control := by unfold State.followHolds; (repeat' split) <;> simp
@[simp] theorem State.followHolds_sPort_link (s : State) : (s.followHolds).sPort.link = s.sPort.link := by unfold State.followHolds; (repeat' split) <;> simp
@[simp] theorem State.followHolds_sPort_replies (s : State) : (s.followHolds).sPort.replies = s.sPort.replies := by unfold State.followHolds; (repeat' split) <;> simp
@[simp] theorem State.followHolds_sPort_returns (s : State) : (s.followHolds).sPort.returns = s.sPort.returns := by unfold State.followHolds; (repeat' split) <;> simp
@[simp] theorem State.followHolds_sPort_refusals (s : State) : (s.followHolds).sPort.refusals = s.sPort.refusals := by unfold State.followHolds; (repeat' split) <;> simp
@[simp] theorem State.followHolds_sPort_sending (s : State) : (s.followHolds).sPort.sending = s.sPort.sending := by unfold State.followHolds; (repeat' split) <;> simp
@[simp] theorem State.followHolds_nPort (s : State) : (s.followHolds).nPort = s.nPort := by unfold State.followHolds; (repeat' split) <;> simp
@[simp] theorem State.followHolds_counters (s : State) : (s.followHolds).counters = s.counters := by unfold State.followHolds; (repeat' split) <;> simp
@[simp] theorem State.followHolds_choices (s : State) : (s.followHolds).choices = s.choices := by unfold State.followHolds; (repeat' split) <;> simp
@[simp] theorem State.followHolds_pending (s : State) : (s.followHolds).pending = s.pending := by unfold State.followHolds; (repeat' split) <;> simp
@[simp] theorem State.followHolds_entryState (j : EntryIndex) (s : State) : (s.followHolds).entryState j = s.entryState j := by unfold State.followHolds; (repeat' split) <;> simp
@[simp] theorem State.followHolds_generation (j : EntryIndex) (s : State) : (s.followHolds).generation j = s.generation j := by unfold State.followHolds; (repeat' split) <;> simp
@[simp] theorem State.followHolds_count (d : Counter) (s : State) : (s.followHolds).count d = s.count d := by unfold State.followHolds; (repeat' split) <;> simp
@[simp] theorem State.followHolds_link (q : PortName) (s : State) : (s.followHolds).link q = s.link q := by unfold State.followHolds; (repeat' split) <;> simp
@[simp] theorem State.followHolds_epochLength (s : State) : (s.followHolds).epochLength = s.epochLength := by unfold State.followHolds; (repeat' split) <;> simp
@[simp] theorem State.followHolds_tableInForce (s : State) : (s.followHolds).tableInForce = s.tableInForce := by unfold State.followHolds; (repeat' split) <;> simp
@[simp] theorem State.accountLoss_heldInReset (s : State) : (s.accountLoss).heldInReset = s.heldInReset := by simp [State.accountLoss]
@[simp] theorem State.accountLoss_now (s : State) : (s.accountLoss).now = s.now := by simp [State.accountLoss]
@[simp] theorem State.accountLoss_epoch (s : State) : (s.accountLoss).epoch = s.epoch := by simp [State.accountLoss]
@[simp] theorem State.accountLoss_table (s : State) : (s.accountLoss).table = s.table := by simp [State.accountLoss]
@[simp] theorem State.accountLoss_resetCause (s : State) : (s.accountLoss).resetCause = s.resetCause := by simp [State.accountLoss]
@[simp] theorem State.accountLoss_active (s : State) : (s.accountLoss).active = s.active := by simp [State.accountLoss]
@[simp] theorem State.accountLoss_shadow (s : State) : (s.accountLoss).shadow = s.shadow := by simp [State.accountLoss]
@[simp] theorem State.accountLoss_fallback (s : State) : (s.accountLoss).fallback = s.fallback := by simp [State.accountLoss]
@[simp] theorem State.accountLoss_commit (s : State) : (s.accountLoss).commit = s.commit := by simp [State.accountLoss]
@[simp] theorem State.accountLoss_holdQueue (s : State) : (s.accountLoss).holdQueue = s.holdQueue := by simp [State.accountLoss]
@[simp] theorem State.accountLoss_meters (s : State) : (s.accountLoss).meters = s.meters := by simp [State.accountLoss]
@[simp] theorem State.accountLoss_log_records (s : State) : (s.accountLoss).log.records = s.log.records := by simp [State.accountLoss]
@[simp] theorem State.accountLoss_log_nextSequence (s : State) : (s.accountLoss).log.nextSequence = s.log.nextSequence := by simp [State.accountLoss]
@[simp] theorem State.accountLoss_log_mode (s : State) : (s.accountLoss).log.mode = s.log.mode := by simp [State.accountLoss]
@[simp] theorem State.accountLoss_log_threshold (s : State) : (s.accountLoss).log.threshold = s.log.threshold := by simp [State.accountLoss]
@[simp] theorem State.accountLoss_log_refusalLogging (s : State) : (s.accountLoss).log.refusalLogging = s.log.refusalLogging := by simp [State.accountLoss]
@[simp] theorem State.accountLoss_log_strayLogging (s : State) : (s.accountLoss).log.strayLogging = s.log.strayLogging := by simp [State.accountLoss]
@[simp] theorem State.accountLoss_events_enable (s : State) : (s.accountLoss).events.enable = s.events.enable := by simp [State.accountLoss]
@[simp] theorem State.accountLoss_events_line (s : State) : (s.accountLoss).events.line = s.events.line := by simp [State.accountLoss]
@[simp] theorem State.accountLoss_notice_interval (s : State) : (s.accountLoss).notice.interval = s.notice.interval := by simp [State.accountLoss]
@[simp] theorem State.accountLoss_session (s : State) : (s.accountLoss).session = s.session := by simp [State.accountLoss]
@[simp] theorem State.accountLoss_control (s : State) : (s.accountLoss).control = s.control := by simp [State.accountLoss]
@[simp] theorem State.accountLoss_sPort_link (s : State) : (s.accountLoss).sPort.link = s.sPort.link := by simp [State.accountLoss]
@[simp] theorem State.accountLoss_sPort_replies (s : State) : (s.accountLoss).sPort.replies = s.sPort.replies := by simp [State.accountLoss]
@[simp] theorem State.accountLoss_sPort_returns (s : State) : (s.accountLoss).sPort.returns = s.sPort.returns := by simp [State.accountLoss]
@[simp] theorem State.accountLoss_sPort_refusals (s : State) : (s.accountLoss).sPort.refusals = s.sPort.refusals := by simp [State.accountLoss]
@[simp] theorem State.accountLoss_sPort_sending (s : State) : (s.accountLoss).sPort.sending = s.sPort.sending := by simp [State.accountLoss]
@[simp] theorem State.accountLoss_nPort (s : State) : (s.accountLoss).nPort = s.nPort := by simp [State.accountLoss]
@[simp] theorem State.accountLoss_counters_nextGroup (s : State) : (s.accountLoss).counters.nextGroup = s.counters.nextGroup := by simp [State.accountLoss]
@[simp] theorem State.accountLoss_choices (s : State) : (s.accountLoss).choices = s.choices := by simp [State.accountLoss]
@[simp] theorem State.accountLoss_pending (s : State) : (s.accountLoss).pending = s.pending := by simp [State.accountLoss]
@[simp] theorem State.accountLoss_entryState (j : EntryIndex) (s : State) : (s.accountLoss).entryState j = s.entryState j := State.setStatus_entryState _ j _
@[simp] theorem State.accountLoss_generation (j : EntryIndex) (s : State) : (s.accountLoss).generation j = s.generation j := State.setStatus_generation _ j _
@[simp] theorem State.accountLoss_link (q : PortName) (s : State) : (s.accountLoss).link q = s.link q := State.setStatus_link _ q _
@[simp] theorem State.accountLoss_epochLength (s : State) : (s.accountLoss).epochLength = s.epochLength := State.setStatus_epochLength _ _
@[simp] theorem State.accountLoss_tableInForce (s : State) : (s.accountLoss).tableInForce = s.tableInForce := State.setStatus_tableInForce _ _
@[simp] theorem State.judgeThreshold_heldInReset (s : State) : (s.judgeThreshold).heldInReset = s.heldInReset := by unfold State.judgeThreshold; split <;> simp
@[simp] theorem State.judgeThreshold_now (s : State) : (s.judgeThreshold).now = s.now := by unfold State.judgeThreshold; split <;> simp
@[simp] theorem State.judgeThreshold_epoch (s : State) : (s.judgeThreshold).epoch = s.epoch := by unfold State.judgeThreshold; split <;> simp
@[simp] theorem State.judgeThreshold_table (s : State) : (s.judgeThreshold).table = s.table := by unfold State.judgeThreshold; split <;> simp
@[simp] theorem State.judgeThreshold_resetCause (s : State) : (s.judgeThreshold).resetCause = s.resetCause := by unfold State.judgeThreshold; split <;> simp
@[simp] theorem State.judgeThreshold_active (s : State) : (s.judgeThreshold).active = s.active := by unfold State.judgeThreshold; split <;> simp
@[simp] theorem State.judgeThreshold_shadow (s : State) : (s.judgeThreshold).shadow = s.shadow := by unfold State.judgeThreshold; split <;> simp
@[simp] theorem State.judgeThreshold_fallback (s : State) : (s.judgeThreshold).fallback = s.fallback := by unfold State.judgeThreshold; split <;> simp
@[simp] theorem State.judgeThreshold_commit (s : State) : (s.judgeThreshold).commit = s.commit := by unfold State.judgeThreshold; split <;> simp
@[simp] theorem State.judgeThreshold_holdQueue (s : State) : (s.judgeThreshold).holdQueue = s.holdQueue := by unfold State.judgeThreshold; split <;> simp
@[simp] theorem State.judgeThreshold_meters (s : State) : (s.judgeThreshold).meters = s.meters := by unfold State.judgeThreshold; split <;> simp
@[simp] theorem State.judgeThreshold_log (s : State) : (s.judgeThreshold).log = s.log := by unfold State.judgeThreshold; split <;> simp
@[simp] theorem State.judgeThreshold_events_enable (s : State) : (s.judgeThreshold).events.enable = s.events.enable := by unfold State.judgeThreshold; split <;> simp
@[simp] theorem State.judgeThreshold_events_line (s : State) : (s.judgeThreshold).events.line = s.events.line := by unfold State.judgeThreshold; split <;> simp
@[simp] theorem State.judgeThreshold_notice_interval (s : State) : (s.judgeThreshold).notice.interval = s.notice.interval := by unfold State.judgeThreshold; split <;> simp
@[simp] theorem State.judgeThreshold_session (s : State) : (s.judgeThreshold).session = s.session := by unfold State.judgeThreshold; split <;> simp
@[simp] theorem State.judgeThreshold_control (s : State) : (s.judgeThreshold).control = s.control := by unfold State.judgeThreshold; split <;> simp
@[simp] theorem State.judgeThreshold_sPort_link (s : State) : (s.judgeThreshold).sPort.link = s.sPort.link := by unfold State.judgeThreshold; split <;> simp
@[simp] theorem State.judgeThreshold_sPort_replies (s : State) : (s.judgeThreshold).sPort.replies = s.sPort.replies := by unfold State.judgeThreshold; split <;> simp
@[simp] theorem State.judgeThreshold_sPort_returns (s : State) : (s.judgeThreshold).sPort.returns = s.sPort.returns := by unfold State.judgeThreshold; split <;> simp
@[simp] theorem State.judgeThreshold_sPort_refusals (s : State) : (s.judgeThreshold).sPort.refusals = s.sPort.refusals := by unfold State.judgeThreshold; split <;> simp
@[simp] theorem State.judgeThreshold_sPort_sending (s : State) : (s.judgeThreshold).sPort.sending = s.sPort.sending := by unfold State.judgeThreshold; split <;> simp
@[simp] theorem State.judgeThreshold_nPort (s : State) : (s.judgeThreshold).nPort = s.nPort := by unfold State.judgeThreshold; split <;> simp
@[simp] theorem State.judgeThreshold_counters (s : State) : (s.judgeThreshold).counters = s.counters := by unfold State.judgeThreshold; split <;> simp
@[simp] theorem State.judgeThreshold_choices (s : State) : (s.judgeThreshold).choices = s.choices := by unfold State.judgeThreshold; split <;> simp
@[simp] theorem State.judgeThreshold_pending (s : State) : (s.judgeThreshold).pending = s.pending := by unfold State.judgeThreshold; split <;> simp
@[simp] theorem State.judgeThreshold_entryState (j : EntryIndex) (s : State) : (s.judgeThreshold).entryState j = s.entryState j := by unfold State.judgeThreshold; split <;> simp
@[simp] theorem State.judgeThreshold_generation (j : EntryIndex) (s : State) : (s.judgeThreshold).generation j = s.generation j := by unfold State.judgeThreshold; split <;> simp
@[simp] theorem State.judgeThreshold_count (d : Counter) (s : State) : (s.judgeThreshold).count d = s.count d := by unfold State.judgeThreshold; split <;> simp
@[simp] theorem State.judgeThreshold_link (q : PortName) (s : State) : (s.judgeThreshold).link q = s.link q := by unfold State.judgeThreshold; split <;> simp
@[simp] theorem State.judgeThreshold_epochLength (s : State) : (s.judgeThreshold).epochLength = s.epochLength := by unfold State.judgeThreshold; split <;> simp
@[simp] theorem State.judgeThreshold_tableInForce (s : State) : (s.judgeThreshold).tableInForce = s.tableInForce := by unfold State.judgeThreshold; split <;> simp
@[simp] theorem State.logRecord_heldInReset (b : RecordBody) (s : State) : (s.logRecord b).heldInReset = s.heldInReset := by
  unfold State.logRecord; (repeat' split) <;> simp
@[simp] theorem State.logRecord_now (b : RecordBody) (s : State) : (s.logRecord b).now = s.now := by
  unfold State.logRecord; (repeat' split) <;> simp
@[simp] theorem State.logRecord_epoch (b : RecordBody) (s : State) : (s.logRecord b).epoch = s.epoch := by
  unfold State.logRecord; (repeat' split) <;> simp
@[simp] theorem State.logRecord_table (b : RecordBody) (s : State) : (s.logRecord b).table = s.table := by
  unfold State.logRecord; (repeat' split) <;> simp
@[simp] theorem State.logRecord_resetCause (b : RecordBody) (s : State) : (s.logRecord b).resetCause = s.resetCause := by
  unfold State.logRecord; (repeat' split) <;> simp
@[simp] theorem State.logRecord_active (b : RecordBody) (s : State) : (s.logRecord b).active = s.active := by
  unfold State.logRecord; (repeat' split) <;> simp
@[simp] theorem State.logRecord_shadow (b : RecordBody) (s : State) : (s.logRecord b).shadow = s.shadow := by
  unfold State.logRecord; (repeat' split) <;> simp
@[simp] theorem State.logRecord_fallback (b : RecordBody) (s : State) : (s.logRecord b).fallback = s.fallback := by
  unfold State.logRecord; (repeat' split) <;> simp
@[simp] theorem State.logRecord_commit (b : RecordBody) (s : State) : (s.logRecord b).commit = s.commit := by
  unfold State.logRecord; (repeat' split) <;> simp
@[simp] theorem State.logRecord_holdQueue (b : RecordBody) (s : State) : (s.logRecord b).holdQueue = s.holdQueue := by
  unfold State.logRecord; (repeat' split) <;> simp
@[simp] theorem State.logRecord_meters (b : RecordBody) (s : State) : (s.logRecord b).meters = s.meters := by
  unfold State.logRecord; (repeat' split) <;> simp
@[simp] theorem State.logRecord_log_mode (b : RecordBody) (s : State) : (s.logRecord b).log.mode = s.log.mode := by
  unfold State.logRecord; (repeat' split) <;> simp
@[simp] theorem State.logRecord_log_threshold (b : RecordBody) (s : State) : (s.logRecord b).log.threshold = s.log.threshold := by
  unfold State.logRecord; (repeat' split) <;> simp
@[simp] theorem State.logRecord_log_refusalLogging (b : RecordBody) (s : State) : (s.logRecord b).log.refusalLogging = s.log.refusalLogging := by
  unfold State.logRecord; (repeat' split) <;> simp
@[simp] theorem State.logRecord_log_strayLogging (b : RecordBody) (s : State) : (s.logRecord b).log.strayLogging = s.log.strayLogging := by
  unfold State.logRecord; (repeat' split) <;> simp
@[simp] theorem State.logRecord_events_enable (b : RecordBody) (s : State) : (s.logRecord b).events.enable = s.events.enable := by
  unfold State.logRecord; (repeat' split) <;> simp
@[simp] theorem State.logRecord_events_line (b : RecordBody) (s : State) : (s.logRecord b).events.line = s.events.line := by
  unfold State.logRecord; (repeat' split) <;> simp
@[simp] theorem State.logRecord_notice_interval (b : RecordBody) (s : State) : (s.logRecord b).notice.interval = s.notice.interval := by
  unfold State.logRecord; (repeat' split) <;> simp
@[simp] theorem State.logRecord_session (b : RecordBody) (s : State) : (s.logRecord b).session = s.session := by
  unfold State.logRecord; (repeat' split) <;> simp
@[simp] theorem State.logRecord_control (b : RecordBody) (s : State) : (s.logRecord b).control = s.control := by
  unfold State.logRecord; (repeat' split) <;> simp
@[simp] theorem State.logRecord_sPort_link (b : RecordBody) (s : State) : (s.logRecord b).sPort.link = s.sPort.link := by
  unfold State.logRecord; (repeat' split) <;> simp
@[simp] theorem State.logRecord_sPort_replies (b : RecordBody) (s : State) : (s.logRecord b).sPort.replies = s.sPort.replies := by
  unfold State.logRecord; (repeat' split) <;> simp
@[simp] theorem State.logRecord_sPort_returns (b : RecordBody) (s : State) : (s.logRecord b).sPort.returns = s.sPort.returns := by
  unfold State.logRecord; (repeat' split) <;> simp
@[simp] theorem State.logRecord_sPort_refusals (b : RecordBody) (s : State) : (s.logRecord b).sPort.refusals = s.sPort.refusals := by
  unfold State.logRecord; (repeat' split) <;> simp
@[simp] theorem State.logRecord_sPort_sending (b : RecordBody) (s : State) : (s.logRecord b).sPort.sending = s.sPort.sending := by
  unfold State.logRecord; (repeat' split) <;> simp
@[simp] theorem State.logRecord_nPort (b : RecordBody) (s : State) : (s.logRecord b).nPort = s.nPort := by
  unfold State.logRecord; (repeat' split) <;> simp
@[simp] theorem State.logRecord_counters_nextGroup (b : RecordBody) (s : State) : (s.logRecord b).counters.nextGroup = s.counters.nextGroup := by
  unfold State.logRecord; (repeat' split) <;> simp
@[simp] theorem State.logRecord_choices (b : RecordBody) (s : State) : (s.logRecord b).choices = s.choices := by
  unfold State.logRecord; (repeat' split) <;> simp
@[simp] theorem State.logRecord_pending (b : RecordBody) (s : State) : (s.logRecord b).pending = s.pending := by
  unfold State.logRecord; (repeat' split) <;> simp
@[simp] theorem State.logRecord_entryState (b : RecordBody) (j : EntryIndex) (s : State) : (s.logRecord b).entryState j = s.entryState j := by
  unfold State.logRecord; (repeat' split) <;> simp
@[simp] theorem State.logRecord_generation (b : RecordBody) (j : EntryIndex) (s : State) : (s.logRecord b).generation j = s.generation j := by
  unfold State.logRecord; (repeat' split) <;> simp
@[simp] theorem State.logRecord_link (b : RecordBody) (q : PortName) (s : State) : (s.logRecord b).link q = s.link q := by
  unfold State.logRecord; (repeat' split) <;> simp
@[simp] theorem State.logRecord_epochLength (b : RecordBody) (s : State) : (s.logRecord b).epochLength = s.epochLength := by
  unfold State.logRecord; (repeat' split) <;> simp
@[simp] theorem State.logRecord_tableInForce (b : RecordBody) (s : State) : (s.logRecord b).tableInForce = s.tableInForce := by
  unfold State.logRecord; (repeat' split) <;> simp
@[simp] theorem State.countAnswer_heldInReset (a : Answer) (s : State) : (s.countAnswer a).heldInReset = s.heldInReset := by unfold State.countAnswer; split <;> rfl
@[simp] theorem State.countAnswer_now (a : Answer) (s : State) : (s.countAnswer a).now = s.now := by unfold State.countAnswer; split <;> rfl
@[simp] theorem State.countAnswer_epoch (a : Answer) (s : State) : (s.countAnswer a).epoch = s.epoch := by unfold State.countAnswer; split <;> rfl
@[simp] theorem State.countAnswer_table (a : Answer) (s : State) : (s.countAnswer a).table = s.table := by unfold State.countAnswer; split <;> rfl
@[simp] theorem State.countAnswer_resetCause (a : Answer) (s : State) : (s.countAnswer a).resetCause = s.resetCause := by unfold State.countAnswer; split <;> rfl
@[simp] theorem State.countAnswer_active (a : Answer) (s : State) : (s.countAnswer a).active = s.active := by unfold State.countAnswer; split <;> rfl
@[simp] theorem State.countAnswer_shadow (a : Answer) (s : State) : (s.countAnswer a).shadow = s.shadow := by unfold State.countAnswer; split <;> rfl
@[simp] theorem State.countAnswer_fallback (a : Answer) (s : State) : (s.countAnswer a).fallback = s.fallback := by unfold State.countAnswer; split <;> rfl
@[simp] theorem State.countAnswer_commit (a : Answer) (s : State) : (s.countAnswer a).commit = s.commit := by unfold State.countAnswer; split <;> rfl
@[simp] theorem State.countAnswer_holdQueue (a : Answer) (s : State) : (s.countAnswer a).holdQueue = s.holdQueue := by unfold State.countAnswer; split <;> rfl
@[simp] theorem State.countAnswer_meters (a : Answer) (s : State) : (s.countAnswer a).meters = s.meters := by unfold State.countAnswer; split <;> rfl
@[simp] theorem State.countAnswer_log (a : Answer) (s : State) : (s.countAnswer a).log = s.log := by unfold State.countAnswer; split <;> rfl
@[simp] theorem State.countAnswer_events (a : Answer) (s : State) : (s.countAnswer a).events = s.events := by unfold State.countAnswer; split <;> rfl
@[simp] theorem State.countAnswer_notice (a : Answer) (s : State) : (s.countAnswer a).notice = s.notice := by unfold State.countAnswer; split <;> rfl
@[simp] theorem State.countAnswer_session (a : Answer) (s : State) : (s.countAnswer a).session = s.session := by unfold State.countAnswer; split <;> rfl
@[simp] theorem State.countAnswer_control (a : Answer) (s : State) : (s.countAnswer a).control = s.control := by unfold State.countAnswer; split <;> rfl
@[simp] theorem State.countAnswer_sPort (a : Answer) (s : State) : (s.countAnswer a).sPort = s.sPort := by unfold State.countAnswer; split <;> rfl
@[simp] theorem State.countAnswer_nPort (a : Answer) (s : State) : (s.countAnswer a).nPort = s.nPort := by unfold State.countAnswer; split <;> rfl
@[simp] theorem State.countAnswer_counters_nextGroup (a : Answer) (s : State) : (s.countAnswer a).counters.nextGroup = s.counters.nextGroup := by unfold State.countAnswer; split <;> rfl
@[simp] theorem State.countAnswer_choices (a : Answer) (s : State) : (s.countAnswer a).choices = s.choices := by unfold State.countAnswer; split <;> rfl
@[simp] theorem State.countAnswer_pending (a : Answer) (s : State) : (s.countAnswer a).pending = s.pending := by unfold State.countAnswer; split <;> rfl
@[simp] theorem State.countAnswer_entryState (a : Answer) (j : EntryIndex) (s : State) : (s.countAnswer a).entryState j = s.entryState j := by unfold State.countAnswer; split <;> rfl
@[simp] theorem State.countAnswer_generation (a : Answer) (j : EntryIndex) (s : State) : (s.countAnswer a).generation j = s.generation j := by unfold State.countAnswer; split <;> rfl
@[simp] theorem State.countAnswer_link (a : Answer) (q : PortName) (s : State) : (s.countAnswer a).link q = s.link q := by unfold State.countAnswer; split <;> rfl
@[simp] theorem State.countAnswer_epochLength (a : Answer) (s : State) : (s.countAnswer a).epochLength = s.epochLength := by unfold State.countAnswer; split <;> rfl
@[simp] theorem State.countAnswer_tableInForce (a : Answer) (s : State) : (s.countAnswer a).tableInForce = s.tableInForce := by unfold State.countAnswer; split <;> rfl
@[simp] theorem State.logCompletion_heldInReset (t : Txn) (a : Answer) (s : State) : (s.logCompletion t a).heldInReset = s.heldInReset := by
  unfold State.logCompletion; (repeat' split) <;> simp
@[simp] theorem State.logCompletion_now (t : Txn) (a : Answer) (s : State) : (s.logCompletion t a).now = s.now := by
  unfold State.logCompletion; (repeat' split) <;> simp
@[simp] theorem State.logCompletion_epoch (t : Txn) (a : Answer) (s : State) : (s.logCompletion t a).epoch = s.epoch := by
  unfold State.logCompletion; (repeat' split) <;> simp
@[simp] theorem State.logCompletion_table (t : Txn) (a : Answer) (s : State) : (s.logCompletion t a).table = s.table := by
  unfold State.logCompletion; (repeat' split) <;> simp
@[simp] theorem State.logCompletion_resetCause (t : Txn) (a : Answer) (s : State) : (s.logCompletion t a).resetCause = s.resetCause := by
  unfold State.logCompletion; (repeat' split) <;> simp
@[simp] theorem State.logCompletion_active (t : Txn) (a : Answer) (s : State) : (s.logCompletion t a).active = s.active := by
  unfold State.logCompletion; (repeat' split) <;> simp
@[simp] theorem State.logCompletion_shadow (t : Txn) (a : Answer) (s : State) : (s.logCompletion t a).shadow = s.shadow := by
  unfold State.logCompletion; (repeat' split) <;> simp
@[simp] theorem State.logCompletion_fallback (t : Txn) (a : Answer) (s : State) : (s.logCompletion t a).fallback = s.fallback := by
  unfold State.logCompletion; (repeat' split) <;> simp
@[simp] theorem State.logCompletion_commit (t : Txn) (a : Answer) (s : State) : (s.logCompletion t a).commit = s.commit := by
  unfold State.logCompletion; (repeat' split) <;> simp
@[simp] theorem State.logCompletion_holdQueue (t : Txn) (a : Answer) (s : State) : (s.logCompletion t a).holdQueue = s.holdQueue := by
  unfold State.logCompletion; (repeat' split) <;> simp
@[simp] theorem State.logCompletion_meters (t : Txn) (a : Answer) (s : State) : (s.logCompletion t a).meters = s.meters := by
  unfold State.logCompletion; (repeat' split) <;> simp
@[simp] theorem State.logCompletion_log_mode (t : Txn) (a : Answer) (s : State) : (s.logCompletion t a).log.mode = s.log.mode := by
  unfold State.logCompletion; (repeat' split) <;> simp
@[simp] theorem State.logCompletion_log_threshold (t : Txn) (a : Answer) (s : State) : (s.logCompletion t a).log.threshold = s.log.threshold := by
  unfold State.logCompletion; (repeat' split) <;> simp
@[simp] theorem State.logCompletion_log_refusalLogging (t : Txn) (a : Answer) (s : State) : (s.logCompletion t a).log.refusalLogging = s.log.refusalLogging := by
  unfold State.logCompletion; (repeat' split) <;> simp
@[simp] theorem State.logCompletion_log_strayLogging (t : Txn) (a : Answer) (s : State) : (s.logCompletion t a).log.strayLogging = s.log.strayLogging := by
  unfold State.logCompletion; (repeat' split) <;> simp
@[simp] theorem State.logCompletion_events_enable (t : Txn) (a : Answer) (s : State) : (s.logCompletion t a).events.enable = s.events.enable := by
  unfold State.logCompletion; (repeat' split) <;> simp
@[simp] theorem State.logCompletion_events_line (t : Txn) (a : Answer) (s : State) : (s.logCompletion t a).events.line = s.events.line := by
  unfold State.logCompletion; (repeat' split) <;> simp
@[simp] theorem State.logCompletion_notice_interval (t : Txn) (a : Answer) (s : State) : (s.logCompletion t a).notice.interval = s.notice.interval := by
  unfold State.logCompletion; (repeat' split) <;> simp
@[simp] theorem State.logCompletion_session (t : Txn) (a : Answer) (s : State) : (s.logCompletion t a).session = s.session := by
  unfold State.logCompletion; (repeat' split) <;> simp
@[simp] theorem State.logCompletion_control (t : Txn) (a : Answer) (s : State) : (s.logCompletion t a).control = s.control := by
  unfold State.logCompletion; (repeat' split) <;> simp
@[simp] theorem State.logCompletion_sPort_link (t : Txn) (a : Answer) (s : State) : (s.logCompletion t a).sPort.link = s.sPort.link := by
  unfold State.logCompletion; (repeat' split) <;> simp
@[simp] theorem State.logCompletion_sPort_replies (t : Txn) (a : Answer) (s : State) : (s.logCompletion t a).sPort.replies = s.sPort.replies := by
  unfold State.logCompletion; (repeat' split) <;> simp
@[simp] theorem State.logCompletion_sPort_returns (t : Txn) (a : Answer) (s : State) : (s.logCompletion t a).sPort.returns = s.sPort.returns := by
  unfold State.logCompletion; (repeat' split) <;> simp
@[simp] theorem State.logCompletion_sPort_refusals (t : Txn) (a : Answer) (s : State) : (s.logCompletion t a).sPort.refusals = s.sPort.refusals := by
  unfold State.logCompletion; (repeat' split) <;> simp
@[simp] theorem State.logCompletion_sPort_sending (t : Txn) (a : Answer) (s : State) : (s.logCompletion t a).sPort.sending = s.sPort.sending := by
  unfold State.logCompletion; (repeat' split) <;> simp
@[simp] theorem State.logCompletion_nPort (t : Txn) (a : Answer) (s : State) : (s.logCompletion t a).nPort = s.nPort := by
  unfold State.logCompletion; (repeat' split) <;> simp
@[simp] theorem State.logCompletion_counters_nextGroup (t : Txn) (a : Answer) (s : State) : (s.logCompletion t a).counters.nextGroup = s.counters.nextGroup := by
  unfold State.logCompletion; (repeat' split) <;> simp
@[simp] theorem State.logCompletion_choices (t : Txn) (a : Answer) (s : State) : (s.logCompletion t a).choices = s.choices := by
  unfold State.logCompletion; (repeat' split) <;> simp
@[simp] theorem State.logCompletion_pending (t : Txn) (a : Answer) (s : State) : (s.logCompletion t a).pending = s.pending := by
  unfold State.logCompletion; (repeat' split) <;> simp
@[simp] theorem State.logCompletion_entryState (t : Txn) (a : Answer) (j : EntryIndex) (s : State) : (s.logCompletion t a).entryState j = s.entryState j := by
  unfold State.logCompletion; (repeat' split) <;> simp
@[simp] theorem State.logCompletion_generation (t : Txn) (a : Answer) (j : EntryIndex) (s : State) : (s.logCompletion t a).generation j = s.generation j := by
  unfold State.logCompletion; (repeat' split) <;> simp
@[simp] theorem State.logCompletion_link (t : Txn) (a : Answer) (q : PortName) (s : State) : (s.logCompletion t a).link q = s.link q := by
  unfold State.logCompletion; (repeat' split) <;> simp
@[simp] theorem State.logCompletion_epochLength (t : Txn) (a : Answer) (s : State) : (s.logCompletion t a).epochLength = s.epochLength := by
  unfold State.logCompletion; (repeat' split) <;> simp
@[simp] theorem State.logCompletion_tableInForce (t : Txn) (a : Answer) (s : State) : (s.logCompletion t a).tableInForce = s.tableInForce := by
  unfold State.logCompletion; (repeat' split) <;> simp
@[simp] theorem State.logDecision_heldInReset (x : Txn) (b : RecordBody) (s : State) : (s.logDecision x b).heldInReset = s.heldInReset := by
  unfold State.logDecision; (repeat' split) <;> simp
@[simp] theorem State.logDecision_now (x : Txn) (b : RecordBody) (s : State) : (s.logDecision x b).now = s.now := by
  unfold State.logDecision; (repeat' split) <;> simp
@[simp] theorem State.logDecision_epoch (x : Txn) (b : RecordBody) (s : State) : (s.logDecision x b).epoch = s.epoch := by
  unfold State.logDecision; (repeat' split) <;> simp
@[simp] theorem State.logDecision_table (x : Txn) (b : RecordBody) (s : State) : (s.logDecision x b).table = s.table := by
  unfold State.logDecision; (repeat' split) <;> simp
@[simp] theorem State.logDecision_resetCause (x : Txn) (b : RecordBody) (s : State) : (s.logDecision x b).resetCause = s.resetCause := by
  unfold State.logDecision; (repeat' split) <;> simp
@[simp] theorem State.logDecision_active (x : Txn) (b : RecordBody) (s : State) : (s.logDecision x b).active = s.active := by
  unfold State.logDecision; (repeat' split) <;> simp
@[simp] theorem State.logDecision_shadow (x : Txn) (b : RecordBody) (s : State) : (s.logDecision x b).shadow = s.shadow := by
  unfold State.logDecision; (repeat' split) <;> simp
@[simp] theorem State.logDecision_fallback (x : Txn) (b : RecordBody) (s : State) : (s.logDecision x b).fallback = s.fallback := by
  unfold State.logDecision; (repeat' split) <;> simp
@[simp] theorem State.logDecision_commit (x : Txn) (b : RecordBody) (s : State) : (s.logDecision x b).commit = s.commit := by
  unfold State.logDecision; (repeat' split) <;> simp
@[simp] theorem State.logDecision_holdQueue (x : Txn) (b : RecordBody) (s : State) : (s.logDecision x b).holdQueue = s.holdQueue := by
  unfold State.logDecision; (repeat' split) <;> simp
@[simp] theorem State.logDecision_meters (x : Txn) (b : RecordBody) (s : State) : (s.logDecision x b).meters = s.meters := by
  unfold State.logDecision; (repeat' split) <;> simp
@[simp] theorem State.logDecision_log_mode (x : Txn) (b : RecordBody) (s : State) : (s.logDecision x b).log.mode = s.log.mode := by
  unfold State.logDecision; (repeat' split) <;> simp
@[simp] theorem State.logDecision_log_threshold (x : Txn) (b : RecordBody) (s : State) : (s.logDecision x b).log.threshold = s.log.threshold := by
  unfold State.logDecision; (repeat' split) <;> simp
@[simp] theorem State.logDecision_log_refusalLogging (x : Txn) (b : RecordBody) (s : State) : (s.logDecision x b).log.refusalLogging = s.log.refusalLogging := by
  unfold State.logDecision; (repeat' split) <;> simp
@[simp] theorem State.logDecision_log_strayLogging (x : Txn) (b : RecordBody) (s : State) : (s.logDecision x b).log.strayLogging = s.log.strayLogging := by
  unfold State.logDecision; (repeat' split) <;> simp
@[simp] theorem State.logDecision_events_enable (x : Txn) (b : RecordBody) (s : State) : (s.logDecision x b).events.enable = s.events.enable := by
  unfold State.logDecision; (repeat' split) <;> simp
@[simp] theorem State.logDecision_events_line (x : Txn) (b : RecordBody) (s : State) : (s.logDecision x b).events.line = s.events.line := by
  unfold State.logDecision; (repeat' split) <;> simp
@[simp] theorem State.logDecision_notice_interval (x : Txn) (b : RecordBody) (s : State) : (s.logDecision x b).notice.interval = s.notice.interval := by
  unfold State.logDecision; (repeat' split) <;> simp
@[simp] theorem State.logDecision_session (x : Txn) (b : RecordBody) (s : State) : (s.logDecision x b).session = s.session := by
  unfold State.logDecision; (repeat' split) <;> simp
@[simp] theorem State.logDecision_control (x : Txn) (b : RecordBody) (s : State) : (s.logDecision x b).control = s.control := by
  unfold State.logDecision; (repeat' split) <;> simp
@[simp] theorem State.logDecision_sPort_link (x : Txn) (b : RecordBody) (s : State) : (s.logDecision x b).sPort.link = s.sPort.link := by
  unfold State.logDecision; (repeat' split) <;> simp
@[simp] theorem State.logDecision_sPort_replies (x : Txn) (b : RecordBody) (s : State) : (s.logDecision x b).sPort.replies = s.sPort.replies := by
  unfold State.logDecision; (repeat' split) <;> simp
@[simp] theorem State.logDecision_sPort_returns (x : Txn) (b : RecordBody) (s : State) : (s.logDecision x b).sPort.returns = s.sPort.returns := by
  unfold State.logDecision; (repeat' split) <;> simp
@[simp] theorem State.logDecision_sPort_refusals (x : Txn) (b : RecordBody) (s : State) : (s.logDecision x b).sPort.refusals = s.sPort.refusals := by
  unfold State.logDecision; (repeat' split) <;> simp
@[simp] theorem State.logDecision_sPort_sending (x : Txn) (b : RecordBody) (s : State) : (s.logDecision x b).sPort.sending = s.sPort.sending := by
  unfold State.logDecision; (repeat' split) <;> simp
@[simp] theorem State.logDecision_nPort (x : Txn) (b : RecordBody) (s : State) : (s.logDecision x b).nPort = s.nPort := by
  unfold State.logDecision; (repeat' split) <;> simp
@[simp] theorem State.logDecision_counters_nextGroup (x : Txn) (b : RecordBody) (s : State) : (s.logDecision x b).counters.nextGroup = s.counters.nextGroup := by
  unfold State.logDecision; (repeat' split) <;> simp
@[simp] theorem State.logDecision_choices (x : Txn) (b : RecordBody) (s : State) : (s.logDecision x b).choices = s.choices := by
  unfold State.logDecision; (repeat' split) <;> simp
@[simp] theorem State.logDecision_pending (x : Txn) (b : RecordBody) (s : State) : (s.logDecision x b).pending = s.pending := by
  unfold State.logDecision; (repeat' split) <;> simp
@[simp] theorem State.logDecision_entryState (x : Txn) (b : RecordBody) (j : EntryIndex) (s : State) : (s.logDecision x b).entryState j = s.entryState j := by
  unfold State.logDecision; (repeat' split) <;> simp
@[simp] theorem State.logDecision_generation (x : Txn) (b : RecordBody) (j : EntryIndex) (s : State) : (s.logDecision x b).generation j = s.generation j := by
  unfold State.logDecision; (repeat' split) <;> simp
@[simp] theorem State.logDecision_link (x : Txn) (b : RecordBody) (q : PortName) (s : State) : (s.logDecision x b).link q = s.link q := by
  unfold State.logDecision; (repeat' split) <;> simp
@[simp] theorem State.logDecision_epochLength (x : Txn) (b : RecordBody) (s : State) : (s.logDecision x b).epochLength = s.epochLength := by
  unfold State.logDecision; (repeat' split) <;> simp
@[simp] theorem State.logDecision_tableInForce (x : Txn) (b : RecordBody) (s : State) : (s.logDecision x b).tableInForce = s.tableInForce := by
  unfold State.logDecision; (repeat' split) <;> simp
@[simp] theorem State.queueAnswer_heldInReset (i : EntryIndex) (s : State) : (s.queueAnswer i).heldInReset = s.heldInReset := by
  unfold State.queueAnswer; split <;> rfl
@[simp] theorem State.queueAnswer_now (i : EntryIndex) (s : State) : (s.queueAnswer i).now = s.now := by
  unfold State.queueAnswer; split <;> rfl
@[simp] theorem State.queueAnswer_epoch (i : EntryIndex) (s : State) : (s.queueAnswer i).epoch = s.epoch := by
  unfold State.queueAnswer; split <;> rfl
@[simp] theorem State.queueAnswer_resetCause (i : EntryIndex) (s : State) : (s.queueAnswer i).resetCause = s.resetCause := by
  unfold State.queueAnswer; split <;> rfl
@[simp] theorem State.queueAnswer_active (i : EntryIndex) (s : State) : (s.queueAnswer i).active = s.active := by
  unfold State.queueAnswer; split <;> rfl
@[simp] theorem State.queueAnswer_shadow (i : EntryIndex) (s : State) : (s.queueAnswer i).shadow = s.shadow := by
  unfold State.queueAnswer; split <;> rfl
@[simp] theorem State.queueAnswer_fallback (i : EntryIndex) (s : State) : (s.queueAnswer i).fallback = s.fallback := by
  unfold State.queueAnswer; split <;> rfl
@[simp] theorem State.queueAnswer_commit (i : EntryIndex) (s : State) : (s.queueAnswer i).commit = s.commit := by
  unfold State.queueAnswer; split <;> rfl
@[simp] theorem State.queueAnswer_holdQueue (i : EntryIndex) (s : State) : (s.queueAnswer i).holdQueue = s.holdQueue := by
  unfold State.queueAnswer; split <;> rfl
@[simp] theorem State.queueAnswer_meters (i : EntryIndex) (s : State) : (s.queueAnswer i).meters = s.meters := by
  unfold State.queueAnswer; split <;> rfl
@[simp] theorem State.queueAnswer_log (i : EntryIndex) (s : State) : (s.queueAnswer i).log = s.log := by
  unfold State.queueAnswer; split <;> rfl
@[simp] theorem State.queueAnswer_events (i : EntryIndex) (s : State) : (s.queueAnswer i).events = s.events := by
  unfold State.queueAnswer; split <;> rfl
@[simp] theorem State.queueAnswer_notice (i : EntryIndex) (s : State) : (s.queueAnswer i).notice = s.notice := by
  unfold State.queueAnswer; split <;> rfl
@[simp] theorem State.queueAnswer_session (i : EntryIndex) (s : State) : (s.queueAnswer i).session = s.session := by
  unfold State.queueAnswer; split <;> rfl
@[simp] theorem State.queueAnswer_control (i : EntryIndex) (s : State) : (s.queueAnswer i).control = s.control := by
  unfold State.queueAnswer; split <;> rfl
@[simp] theorem State.queueAnswer_sPort_link (i : EntryIndex) (s : State) : (s.queueAnswer i).sPort.link = s.sPort.link := by
  unfold State.queueAnswer; split <;> rfl
@[simp] theorem State.queueAnswer_sPort_replies (i : EntryIndex) (s : State) : (s.queueAnswer i).sPort.replies = s.sPort.replies := by
  unfold State.queueAnswer; split <;> rfl
@[simp] theorem State.queueAnswer_sPort_slot (i : EntryIndex) (s : State) : (s.queueAnswer i).sPort.slot = s.sPort.slot := by
  unfold State.queueAnswer; split <;> rfl
@[simp] theorem State.queueAnswer_sPort_refusals (i : EntryIndex) (s : State) : (s.queueAnswer i).sPort.refusals = s.sPort.refusals := by
  unfold State.queueAnswer; split <;> rfl
@[simp] theorem State.queueAnswer_sPort_sending (i : EntryIndex) (s : State) : (s.queueAnswer i).sPort.sending = s.sPort.sending := by
  unfold State.queueAnswer; split <;> rfl
@[simp] theorem State.queueAnswer_nPort (i : EntryIndex) (s : State) : (s.queueAnswer i).nPort = s.nPort := by
  unfold State.queueAnswer; split <;> rfl
@[simp] theorem State.queueAnswer_counters_nextGroup (i : EntryIndex) (s : State) : (s.queueAnswer i).counters.nextGroup = s.counters.nextGroup := by
  unfold State.queueAnswer; split <;> rfl
@[simp] theorem State.queueAnswer_choices (i : EntryIndex) (s : State) : (s.queueAnswer i).choices = s.choices := by
  unfold State.queueAnswer; split <;> rfl
@[simp] theorem State.queueAnswer_pending (i : EntryIndex) (s : State) : (s.queueAnswer i).pending = s.pending := by
  unfold State.queueAnswer; split <;> rfl
@[simp] theorem State.queueAnswer_link (i : EntryIndex) (q : PortName) (s : State) : (s.queueAnswer i).link q = s.link q := by
  unfold State.queueAnswer; split <;> rfl
@[simp] theorem State.queueAnswer_epochLength (i : EntryIndex) (s : State) : (s.queueAnswer i).epochLength = s.epochLength := by
  unfold State.queueAnswer; split <;> rfl
@[simp] theorem State.queueAnswer_tableInForce (i : EntryIndex) (s : State) : (s.queueAnswer i).tableInForce = s.tableInForce := by
  unfold State.queueAnswer; split <;> rfl
@[simp] theorem State.becomeReturning_heldInReset (i : EntryIndex) (t : Txn) (a : Answer) (s : State) : (s.becomeReturning i t a).heldInReset = s.heldInReset := by simp [State.becomeReturning]
@[simp] theorem State.becomeReturning_now (i : EntryIndex) (t : Txn) (a : Answer) (s : State) : (s.becomeReturning i t a).now = s.now := by simp [State.becomeReturning]
@[simp] theorem State.becomeReturning_epoch (i : EntryIndex) (t : Txn) (a : Answer) (s : State) : (s.becomeReturning i t a).epoch = s.epoch := by simp [State.becomeReturning]
@[simp] theorem State.becomeReturning_resetCause (i : EntryIndex) (t : Txn) (a : Answer) (s : State) : (s.becomeReturning i t a).resetCause = s.resetCause := by simp [State.becomeReturning]
@[simp] theorem State.becomeReturning_active (i : EntryIndex) (t : Txn) (a : Answer) (s : State) : (s.becomeReturning i t a).active = s.active := by simp [State.becomeReturning]
@[simp] theorem State.becomeReturning_shadow (i : EntryIndex) (t : Txn) (a : Answer) (s : State) : (s.becomeReturning i t a).shadow = s.shadow := by simp [State.becomeReturning]
@[simp] theorem State.becomeReturning_fallback (i : EntryIndex) (t : Txn) (a : Answer) (s : State) : (s.becomeReturning i t a).fallback = s.fallback := by simp [State.becomeReturning]
@[simp] theorem State.becomeReturning_commit (i : EntryIndex) (t : Txn) (a : Answer) (s : State) : (s.becomeReturning i t a).commit = s.commit := by simp [State.becomeReturning]
@[simp] theorem State.becomeReturning_holdQueue (i : EntryIndex) (t : Txn) (a : Answer) (s : State) : (s.becomeReturning i t a).holdQueue = s.holdQueue := by simp [State.becomeReturning]
@[simp] theorem State.becomeReturning_meters (i : EntryIndex) (t : Txn) (a : Answer) (s : State) : (s.becomeReturning i t a).meters = s.meters := by simp [State.becomeReturning]
@[simp] theorem State.becomeReturning_log_mode (i : EntryIndex) (t : Txn) (a : Answer) (s : State) : (s.becomeReturning i t a).log.mode = s.log.mode := by simp [State.becomeReturning]
@[simp] theorem State.becomeReturning_log_threshold (i : EntryIndex) (t : Txn) (a : Answer) (s : State) : (s.becomeReturning i t a).log.threshold = s.log.threshold := by simp [State.becomeReturning]
@[simp] theorem State.becomeReturning_log_refusalLogging (i : EntryIndex) (t : Txn) (a : Answer) (s : State) : (s.becomeReturning i t a).log.refusalLogging = s.log.refusalLogging := by simp [State.becomeReturning]
@[simp] theorem State.becomeReturning_log_strayLogging (i : EntryIndex) (t : Txn) (a : Answer) (s : State) : (s.becomeReturning i t a).log.strayLogging = s.log.strayLogging := by simp [State.becomeReturning]
@[simp] theorem State.becomeReturning_events_enable (i : EntryIndex) (t : Txn) (a : Answer) (s : State) : (s.becomeReturning i t a).events.enable = s.events.enable := by simp [State.becomeReturning]
@[simp] theorem State.becomeReturning_events_line (i : EntryIndex) (t : Txn) (a : Answer) (s : State) : (s.becomeReturning i t a).events.line = s.events.line := by simp [State.becomeReturning]
@[simp] theorem State.becomeReturning_notice_interval (i : EntryIndex) (t : Txn) (a : Answer) (s : State) : (s.becomeReturning i t a).notice.interval = s.notice.interval := by simp [State.becomeReturning]
@[simp] theorem State.becomeReturning_session (i : EntryIndex) (t : Txn) (a : Answer) (s : State) : (s.becomeReturning i t a).session = s.session := by simp [State.becomeReturning]
@[simp] theorem State.becomeReturning_control (i : EntryIndex) (t : Txn) (a : Answer) (s : State) : (s.becomeReturning i t a).control = s.control := by simp [State.becomeReturning]
@[simp] theorem State.becomeReturning_sPort_link (i : EntryIndex) (t : Txn) (a : Answer) (s : State) : (s.becomeReturning i t a).sPort.link = s.sPort.link := by simp [State.becomeReturning]
@[simp] theorem State.becomeReturning_sPort_replies (i : EntryIndex) (t : Txn) (a : Answer) (s : State) : (s.becomeReturning i t a).sPort.replies = s.sPort.replies := by simp [State.becomeReturning]
@[simp] theorem State.becomeReturning_sPort_refusals (i : EntryIndex) (t : Txn) (a : Answer) (s : State) : (s.becomeReturning i t a).sPort.refusals = s.sPort.refusals := by simp [State.becomeReturning]
@[simp] theorem State.becomeReturning_sPort_sending (i : EntryIndex) (t : Txn) (a : Answer) (s : State) : (s.becomeReturning i t a).sPort.sending = s.sPort.sending := by simp [State.becomeReturning]
@[simp] theorem State.becomeReturning_nPort (i : EntryIndex) (t : Txn) (a : Answer) (s : State) : (s.becomeReturning i t a).nPort = s.nPort := by simp [State.becomeReturning]
@[simp] theorem State.becomeReturning_counters_nextGroup (i : EntryIndex) (t : Txn) (a : Answer) (s : State) : (s.becomeReturning i t a).counters.nextGroup = s.counters.nextGroup := by simp [State.becomeReturning]
@[simp] theorem State.becomeReturning_choices (i : EntryIndex) (t : Txn) (a : Answer) (s : State) : (s.becomeReturning i t a).choices = s.choices := by simp [State.becomeReturning]
@[simp] theorem State.becomeReturning_pending (i : EntryIndex) (t : Txn) (a : Answer) (s : State) : (s.becomeReturning i t a).pending = s.pending := by simp [State.becomeReturning]
@[simp] theorem State.becomeReturning_link (i : EntryIndex) (t : Txn) (a : Answer) (q : PortName) (s : State) : (s.becomeReturning i t a).link q = s.link q := by simp [State.becomeReturning]
@[simp] theorem State.becomeReturning_epochLength (i : EntryIndex) (t : Txn) (a : Answer) (s : State) : (s.becomeReturning i t a).epochLength = s.epochLength := by simp [State.becomeReturning]
@[simp] theorem State.becomeReturning_tableInForce (i : EntryIndex) (t : Txn) (a : Answer) (s : State) : (s.becomeReturning i t a).tableInForce = s.tableInForce := by simp [State.becomeReturning]
@[simp] theorem State.forward_heldInReset (i : EntryIndex) (t : Txn) (s : State) : (s.forward i t).heldInReset = s.heldInReset := by
  unfold State.forward; split <;> simp
@[simp] theorem State.forward_now (i : EntryIndex) (t : Txn) (s : State) : (s.forward i t).now = s.now := by
  unfold State.forward; split <;> simp
@[simp] theorem State.forward_epoch (i : EntryIndex) (t : Txn) (s : State) : (s.forward i t).epoch = s.epoch := by
  unfold State.forward; split <;> simp
@[simp] theorem State.forward_resetCause (i : EntryIndex) (t : Txn) (s : State) : (s.forward i t).resetCause = s.resetCause := by
  unfold State.forward; split <;> simp
@[simp] theorem State.forward_active (i : EntryIndex) (t : Txn) (s : State) : (s.forward i t).active = s.active := by
  unfold State.forward; split <;> simp
@[simp] theorem State.forward_shadow (i : EntryIndex) (t : Txn) (s : State) : (s.forward i t).shadow = s.shadow := by
  unfold State.forward; split <;> simp
@[simp] theorem State.forward_fallback (i : EntryIndex) (t : Txn) (s : State) : (s.forward i t).fallback = s.fallback := by
  unfold State.forward; split <;> simp
@[simp] theorem State.forward_commit (i : EntryIndex) (t : Txn) (s : State) : (s.forward i t).commit = s.commit := by
  unfold State.forward; split <;> simp
@[simp] theorem State.forward_holdQueue (i : EntryIndex) (t : Txn) (s : State) : (s.forward i t).holdQueue = s.holdQueue := by
  unfold State.forward; split <;> simp
@[simp] theorem State.forward_meters (i : EntryIndex) (t : Txn) (s : State) : (s.forward i t).meters = s.meters := by
  unfold State.forward; split <;> simp
@[simp] theorem State.forward_log_mode (i : EntryIndex) (t : Txn) (s : State) : (s.forward i t).log.mode = s.log.mode := by
  unfold State.forward; split <;> simp
@[simp] theorem State.forward_log_threshold (i : EntryIndex) (t : Txn) (s : State) : (s.forward i t).log.threshold = s.log.threshold := by
  unfold State.forward; split <;> simp
@[simp] theorem State.forward_log_refusalLogging (i : EntryIndex) (t : Txn) (s : State) : (s.forward i t).log.refusalLogging = s.log.refusalLogging := by
  unfold State.forward; split <;> simp
@[simp] theorem State.forward_log_strayLogging (i : EntryIndex) (t : Txn) (s : State) : (s.forward i t).log.strayLogging = s.log.strayLogging := by
  unfold State.forward; split <;> simp
@[simp] theorem State.forward_events_enable (i : EntryIndex) (t : Txn) (s : State) : (s.forward i t).events.enable = s.events.enable := by
  unfold State.forward; split <;> simp
@[simp] theorem State.forward_events_line (i : EntryIndex) (t : Txn) (s : State) : (s.forward i t).events.line = s.events.line := by
  unfold State.forward; split <;> simp
@[simp] theorem State.forward_notice_interval (i : EntryIndex) (t : Txn) (s : State) : (s.forward i t).notice.interval = s.notice.interval := by
  unfold State.forward; split <;> simp
@[simp] theorem State.forward_session (i : EntryIndex) (t : Txn) (s : State) : (s.forward i t).session = s.session := by
  unfold State.forward; split <;> simp
@[simp] theorem State.forward_control (i : EntryIndex) (t : Txn) (s : State) : (s.forward i t).control = s.control := by
  unfold State.forward; split <;> simp
@[simp] theorem State.forward_sPort_link (i : EntryIndex) (t : Txn) (s : State) : (s.forward i t).sPort.link = s.sPort.link := by
  unfold State.forward; split <;> simp
@[simp] theorem State.forward_sPort_replies (i : EntryIndex) (t : Txn) (s : State) : (s.forward i t).sPort.replies = s.sPort.replies := by
  unfold State.forward; split <;> simp
@[simp] theorem State.forward_sPort_refusals (i : EntryIndex) (t : Txn) (s : State) : (s.forward i t).sPort.refusals = s.sPort.refusals := by
  unfold State.forward; split <;> simp
@[simp] theorem State.forward_sPort_sending (i : EntryIndex) (t : Txn) (s : State) : (s.forward i t).sPort.sending = s.sPort.sending := by
  unfold State.forward; split <;> simp
@[simp] theorem State.forward_nPort_link (i : EntryIndex) (t : Txn) (s : State) : (s.forward i t).nPort.link = s.nPort.link := by
  unfold State.forward; split <;> simp
@[simp] theorem State.forward_nPort_busy (i : EntryIndex) (t : Txn) (s : State) : (s.forward i t).nPort.busy = s.nPort.busy := by
  unfold State.forward; split <;> simp
@[simp] theorem State.forward_counters_nextGroup (i : EntryIndex) (t : Txn) (s : State) : (s.forward i t).counters.nextGroup = s.counters.nextGroup := by
  unfold State.forward; split <;> simp
@[simp] theorem State.forward_choices (i : EntryIndex) (t : Txn) (s : State) : (s.forward i t).choices = s.choices := by
  unfold State.forward; split <;> simp
@[simp] theorem State.forward_pending (i : EntryIndex) (t : Txn) (s : State) : (s.forward i t).pending = s.pending := by
  unfold State.forward; split <;> simp
@[simp] theorem State.forward_link (i : EntryIndex) (t : Txn) (q : PortName) (s : State) : (s.forward i t).link q = s.link q := by
  unfold State.forward; split <;> simp
@[simp] theorem State.forward_epochLength (i : EntryIndex) (t : Txn) (s : State) : (s.forward i t).epochLength = s.epochLength := by
  unfold State.forward; split <;> simp
@[simp] theorem State.forward_tableInForce (i : EntryIndex) (t : Txn) (s : State) : (s.forward i t).tableInForce = s.tableInForce := by
  unfold State.forward; split <;> simp
@[simp] theorem State.removeHold_heldInReset (i : EntryIndex) (b : RecordBody) (s : State) : (s.removeHold i b).heldInReset = s.heldInReset := by simp [State.removeHold]
@[simp] theorem State.removeHold_now (i : EntryIndex) (b : RecordBody) (s : State) : (s.removeHold i b).now = s.now := by simp [State.removeHold]
@[simp] theorem State.removeHold_epoch (i : EntryIndex) (b : RecordBody) (s : State) : (s.removeHold i b).epoch = s.epoch := by simp [State.removeHold]
@[simp] theorem State.removeHold_table (i : EntryIndex) (b : RecordBody) (s : State) : (s.removeHold i b).table = s.table := by simp [State.removeHold]
@[simp] theorem State.removeHold_resetCause (i : EntryIndex) (b : RecordBody) (s : State) : (s.removeHold i b).resetCause = s.resetCause := by simp [State.removeHold]
@[simp] theorem State.removeHold_active (i : EntryIndex) (b : RecordBody) (s : State) : (s.removeHold i b).active = s.active := by simp [State.removeHold]
@[simp] theorem State.removeHold_shadow (i : EntryIndex) (b : RecordBody) (s : State) : (s.removeHold i b).shadow = s.shadow := by simp [State.removeHold]
@[simp] theorem State.removeHold_fallback (i : EntryIndex) (b : RecordBody) (s : State) : (s.removeHold i b).fallback = s.fallback := by simp [State.removeHold]
@[simp] theorem State.removeHold_commit (i : EntryIndex) (b : RecordBody) (s : State) : (s.removeHold i b).commit = s.commit := by simp [State.removeHold]
@[simp] theorem State.removeHold_meters (i : EntryIndex) (b : RecordBody) (s : State) : (s.removeHold i b).meters = s.meters := by simp [State.removeHold]
@[simp] theorem State.removeHold_log_mode (i : EntryIndex) (b : RecordBody) (s : State) : (s.removeHold i b).log.mode = s.log.mode := by simp [State.removeHold]
@[simp] theorem State.removeHold_log_threshold (i : EntryIndex) (b : RecordBody) (s : State) : (s.removeHold i b).log.threshold = s.log.threshold := by simp [State.removeHold]
@[simp] theorem State.removeHold_log_refusalLogging (i : EntryIndex) (b : RecordBody) (s : State) : (s.removeHold i b).log.refusalLogging = s.log.refusalLogging := by simp [State.removeHold]
@[simp] theorem State.removeHold_log_strayLogging (i : EntryIndex) (b : RecordBody) (s : State) : (s.removeHold i b).log.strayLogging = s.log.strayLogging := by simp [State.removeHold]
@[simp] theorem State.removeHold_events_enable (i : EntryIndex) (b : RecordBody) (s : State) : (s.removeHold i b).events.enable = s.events.enable := by simp [State.removeHold]
@[simp] theorem State.removeHold_events_line (i : EntryIndex) (b : RecordBody) (s : State) : (s.removeHold i b).events.line = s.events.line := by simp [State.removeHold]
@[simp] theorem State.removeHold_notice_interval (i : EntryIndex) (b : RecordBody) (s : State) : (s.removeHold i b).notice.interval = s.notice.interval := by simp [State.removeHold]
@[simp] theorem State.removeHold_session (i : EntryIndex) (b : RecordBody) (s : State) : (s.removeHold i b).session = s.session := by simp [State.removeHold]
@[simp] theorem State.removeHold_control (i : EntryIndex) (b : RecordBody) (s : State) : (s.removeHold i b).control = s.control := by simp [State.removeHold]
@[simp] theorem State.removeHold_sPort_link (i : EntryIndex) (b : RecordBody) (s : State) : (s.removeHold i b).sPort.link = s.sPort.link := by simp [State.removeHold]
@[simp] theorem State.removeHold_sPort_replies (i : EntryIndex) (b : RecordBody) (s : State) : (s.removeHold i b).sPort.replies = s.sPort.replies := by simp [State.removeHold]
@[simp] theorem State.removeHold_sPort_returns (i : EntryIndex) (b : RecordBody) (s : State) : (s.removeHold i b).sPort.returns = s.sPort.returns := by simp [State.removeHold]
@[simp] theorem State.removeHold_sPort_refusals (i : EntryIndex) (b : RecordBody) (s : State) : (s.removeHold i b).sPort.refusals = s.sPort.refusals := by simp [State.removeHold]
@[simp] theorem State.removeHold_sPort_sending (i : EntryIndex) (b : RecordBody) (s : State) : (s.removeHold i b).sPort.sending = s.sPort.sending := by simp [State.removeHold]
@[simp] theorem State.removeHold_nPort (i : EntryIndex) (b : RecordBody) (s : State) : (s.removeHold i b).nPort = s.nPort := by simp [State.removeHold]
@[simp] theorem State.removeHold_counters_nextGroup (i : EntryIndex) (b : RecordBody) (s : State) : (s.removeHold i b).counters.nextGroup = s.counters.nextGroup := by simp [State.removeHold]
@[simp] theorem State.removeHold_choices (i : EntryIndex) (b : RecordBody) (s : State) : (s.removeHold i b).choices = s.choices := by simp [State.removeHold]
@[simp] theorem State.removeHold_pending (i : EntryIndex) (b : RecordBody) (s : State) : (s.removeHold i b).pending = s.pending := by simp [State.removeHold]
@[simp] theorem State.removeHold_entryState (i : EntryIndex) (b : RecordBody) (j : EntryIndex) (s : State) : (s.removeHold i b).entryState j = s.entryState j := by simp [State.removeHold]
@[simp] theorem State.removeHold_generation (i : EntryIndex) (b : RecordBody) (j : EntryIndex) (s : State) : (s.removeHold i b).generation j = s.generation j := by simp [State.removeHold]
@[simp] theorem State.removeHold_link (i : EntryIndex) (b : RecordBody) (q : PortName) (s : State) : (s.removeHold i b).link q = s.link q := by simp [State.removeHold]
@[simp] theorem State.removeHold_epochLength (i : EntryIndex) (b : RecordBody) (s : State) : (s.removeHold i b).epochLength = s.epochLength := by simp [State.removeHold]
@[simp] theorem State.removeHold_tableInForce (i : EntryIndex) (b : RecordBody) (s : State) : (s.removeHold i b).tableInForce = s.tableInForce := by simp [State.removeHold]
@[simp] theorem State.applyDefault_heldInReset (i : EntryIndex) (t : Txn) (d : PassRefuse) (s : State) : (s.applyDefault i t d).heldInReset = s.heldInReset := by cases d <;> simp [State.applyDefault]
@[simp] theorem State.applyDefault_now (i : EntryIndex) (t : Txn) (d : PassRefuse) (s : State) : (s.applyDefault i t d).now = s.now := by cases d <;> simp [State.applyDefault]
@[simp] theorem State.applyDefault_epoch (i : EntryIndex) (t : Txn) (d : PassRefuse) (s : State) : (s.applyDefault i t d).epoch = s.epoch := by cases d <;> simp [State.applyDefault]
@[simp] theorem State.applyDefault_resetCause (i : EntryIndex) (t : Txn) (d : PassRefuse) (s : State) : (s.applyDefault i t d).resetCause = s.resetCause := by cases d <;> simp [State.applyDefault]
@[simp] theorem State.applyDefault_active (i : EntryIndex) (t : Txn) (d : PassRefuse) (s : State) : (s.applyDefault i t d).active = s.active := by cases d <;> simp [State.applyDefault]
@[simp] theorem State.applyDefault_shadow (i : EntryIndex) (t : Txn) (d : PassRefuse) (s : State) : (s.applyDefault i t d).shadow = s.shadow := by cases d <;> simp [State.applyDefault]
@[simp] theorem State.applyDefault_fallback (i : EntryIndex) (t : Txn) (d : PassRefuse) (s : State) : (s.applyDefault i t d).fallback = s.fallback := by cases d <;> simp [State.applyDefault]
@[simp] theorem State.applyDefault_commit (i : EntryIndex) (t : Txn) (d : PassRefuse) (s : State) : (s.applyDefault i t d).commit = s.commit := by cases d <;> simp [State.applyDefault]
@[simp] theorem State.applyDefault_holdQueue (i : EntryIndex) (t : Txn) (d : PassRefuse) (s : State) : (s.applyDefault i t d).holdQueue = s.holdQueue := by cases d <;> simp [State.applyDefault]
@[simp] theorem State.applyDefault_meters (i : EntryIndex) (t : Txn) (d : PassRefuse) (s : State) : (s.applyDefault i t d).meters = s.meters := by cases d <;> simp [State.applyDefault]
@[simp] theorem State.applyDefault_log_mode (i : EntryIndex) (t : Txn) (d : PassRefuse) (s : State) : (s.applyDefault i t d).log.mode = s.log.mode := by cases d <;> simp [State.applyDefault]
@[simp] theorem State.applyDefault_log_threshold (i : EntryIndex) (t : Txn) (d : PassRefuse) (s : State) : (s.applyDefault i t d).log.threshold = s.log.threshold := by cases d <;> simp [State.applyDefault]
@[simp] theorem State.applyDefault_log_refusalLogging (i : EntryIndex) (t : Txn) (d : PassRefuse) (s : State) : (s.applyDefault i t d).log.refusalLogging = s.log.refusalLogging := by cases d <;> simp [State.applyDefault]
@[simp] theorem State.applyDefault_log_strayLogging (i : EntryIndex) (t : Txn) (d : PassRefuse) (s : State) : (s.applyDefault i t d).log.strayLogging = s.log.strayLogging := by cases d <;> simp [State.applyDefault]
@[simp] theorem State.applyDefault_events_enable (i : EntryIndex) (t : Txn) (d : PassRefuse) (s : State) : (s.applyDefault i t d).events.enable = s.events.enable := by cases d <;> simp [State.applyDefault]
@[simp] theorem State.applyDefault_events_line (i : EntryIndex) (t : Txn) (d : PassRefuse) (s : State) : (s.applyDefault i t d).events.line = s.events.line := by cases d <;> simp [State.applyDefault]
@[simp] theorem State.applyDefault_notice_interval (i : EntryIndex) (t : Txn) (d : PassRefuse) (s : State) : (s.applyDefault i t d).notice.interval = s.notice.interval := by cases d <;> simp [State.applyDefault]
@[simp] theorem State.applyDefault_session (i : EntryIndex) (t : Txn) (d : PassRefuse) (s : State) : (s.applyDefault i t d).session = s.session := by cases d <;> simp [State.applyDefault]
@[simp] theorem State.applyDefault_control (i : EntryIndex) (t : Txn) (d : PassRefuse) (s : State) : (s.applyDefault i t d).control = s.control := by cases d <;> simp [State.applyDefault]
@[simp] theorem State.applyDefault_sPort_link (i : EntryIndex) (t : Txn) (d : PassRefuse) (s : State) : (s.applyDefault i t d).sPort.link = s.sPort.link := by cases d <;> simp [State.applyDefault]
@[simp] theorem State.applyDefault_sPort_replies (i : EntryIndex) (t : Txn) (d : PassRefuse) (s : State) : (s.applyDefault i t d).sPort.replies = s.sPort.replies := by cases d <;> simp [State.applyDefault]
@[simp] theorem State.applyDefault_sPort_refusals (i : EntryIndex) (t : Txn) (d : PassRefuse) (s : State) : (s.applyDefault i t d).sPort.refusals = s.sPort.refusals := by cases d <;> simp [State.applyDefault]
@[simp] theorem State.applyDefault_sPort_sending (i : EntryIndex) (t : Txn) (d : PassRefuse) (s : State) : (s.applyDefault i t d).sPort.sending = s.sPort.sending := by cases d <;> simp [State.applyDefault]
@[simp] theorem State.applyDefault_nPort_link (i : EntryIndex) (t : Txn) (d : PassRefuse) (s : State) : (s.applyDefault i t d).nPort.link = s.nPort.link := by cases d <;> simp [State.applyDefault]
@[simp] theorem State.applyDefault_nPort_busy (i : EntryIndex) (t : Txn) (d : PassRefuse) (s : State) : (s.applyDefault i t d).nPort.busy = s.nPort.busy := by cases d <;> simp [State.applyDefault]
@[simp] theorem State.applyDefault_counters_nextGroup (i : EntryIndex) (t : Txn) (d : PassRefuse) (s : State) : (s.applyDefault i t d).counters.nextGroup = s.counters.nextGroup := by cases d <;> simp [State.applyDefault]
@[simp] theorem State.applyDefault_choices (i : EntryIndex) (t : Txn) (d : PassRefuse) (s : State) : (s.applyDefault i t d).choices = s.choices := by cases d <;> simp [State.applyDefault]
@[simp] theorem State.applyDefault_pending (i : EntryIndex) (t : Txn) (d : PassRefuse) (s : State) : (s.applyDefault i t d).pending = s.pending := by cases d <;> simp [State.applyDefault]
@[simp] theorem State.applyDefault_link (i : EntryIndex) (t : Txn) (d : PassRefuse) (q : PortName) (s : State) : (s.applyDefault i t d).link q = s.link q := by cases d <;> simp [State.applyDefault]
@[simp] theorem State.applyDefault_epochLength (i : EntryIndex) (t : Txn) (d : PassRefuse) (s : State) : (s.applyDefault i t d).epochLength = s.epochLength := by cases d <;> simp [State.applyDefault]
@[simp] theorem State.applyDefault_tableInForce (i : EntryIndex) (t : Txn) (d : PassRefuse) (s : State) : (s.applyDefault i t d).tableInForce = s.tableInForce := by cases d <;> simp [State.applyDefault]

end Sys2Proof.Machine
end

