-- ==== Sys2Proof/Laws/Frames.lean ====
section
/-! SUPPORT. Frames compose; what each shared operation leaves alone, once. -/
namespace Sys2Proof.Machine

/-! ### Frames compose -/

theorem SameBut.refl (changed : List Part) (s : State) : SameBut changed s s := by
  intro p _; cases p <;> simp [Part.Kept]

theorem SameBut.trans {a b : List Part} {s t u : State} (h : SameBut a s t) (k : SameBut b t u) :
    SameBut (a ++ b) s u := by
  intro p hp
  have h1 := h p (fun m => hp (List.mem_append_left _ m))
  have h2 := k p (fun m => hp (List.mem_append_right _ m))
  cases p <;> simp only [Part.Kept] at h1 h2 ⊢ <;> first
    | exact h2.trans h1
    | exact ⟨h2.1.trans h1.1, h2.2.trans h1.2⟩
    | exact ⟨h2.1.trans h1.1, h2.2.1.trans h1.2.1, h2.2.2.trans h1.2.2⟩
    | exact fun x => h2 (h1 x)
    | (rcases h1 with h1 | h1
       · exact .inl h1
       · rcases h2 with h2 | h2
         · exact .inl (h1 ▸ h2)
         · exact .inr (h2.trans h1))

theorem SameBut.mono {a b : List Part} {s t : State} (h : SameBut a s t) (sub : ∀ p ∈ a, p ∈ b) : SameBut b s t :=
  fun p hp => h p (fun m => hp (sub p m))

/-! ### Statuses -/

theorem EventKind.isSet_or_mask (x : EventSet) (j k : EventKind) :
    (x ||| j.mask).getLsbD k.bit = (decide (k = j) || x.getLsbD k.bit) := by
  cases j <;> cases k <;> simp [EventKind.mask, EventKind.bit, BitVec.getLsbD_or, BitVec.getLsbD_ofNat]

theorem EventKind.isSet_and_not_mask (x : EventSet) (j k : EventKind) :
    (x &&& ~~~j.mask).getLsbD k.bit = (!decide (k = j) && x.getLsbD k.bit) := by
  cases j <;> cases k <;> simp [EventKind.mask, EventKind.bit, BitVec.getLsbD_and, BitVec.getLsbD_not]

theorem State.setStatus_events_status (k : EventKind) (s : State) :
    (s.setStatus k).events.status = s.events.status ||| k.mask :=
  congrArg (·.status) (State.evalNotice_events _)

@[simp] theorem State.setStatus_isSet (j k : EventKind) (s : State) :
    (s.setStatus j).events.isSet k = (decide (k = j) || s.events.isSet k) := by
  rw [EventUnit.isSet, State.setStatus_events_status, EventKind.isSet_or_mask]; rfl

@[simp] theorem State.clearStatus_isSet (j k : EventKind) (s : State) :
    (s.clearStatus j).events.isSet k = (!decide (k = j) && s.events.isSet k) := by
  simp only [EventUnit.isSet, State.clearStatus, EventKind.isSet_and_not_mask]

/-- HOLD_WAITING is set exactly while something is held, and no other status moves (R48). -/
@[simp] theorem State.followHolds_isSet (k : EventKind) (s : State) :
    s.followHolds.events.isSet k
      = if k = .holdWaiting then !s.holdQueue.isEmpty else s.events.isSet k := by
  unfold State.followHolds
  split
  · simp_all
  · split <;> simp_all <;> split <;> simp_all

/-! ### The Capture Log -/

@[simp] theorem State.logRecord_log (b : RecordBody) (s : State) : (s.logRecord b).log = logAfter s.epoch s.log b := by
  unfold State.logRecord logAfter
  split
  · simp [State.judgeThreshold, State.putRecords, State.stampRecord]
    split <;> simp
  · split <;> rename_i h <;> simp [h, State.accountLoss, State.putRecords, State.stampRecord]

/-- A record lost is counted, and nothing else is (R102). -/
@[simp] theorem State.logRecord_count (b : RecordBody) (c : Counter) (s : State) :
    (s.logRecord b).count c = if c = .logRecordsLost ∧ 256 ≤ s.log.records.length
      then s.count c + 1 else s.count c := by
  unfold State.logRecord
  split
  · rename_i h
    have : ¬ 256 ≤ s.log.records.length := by simp [Config.logCapacity] at h; omega
    simp [this]
  · rename_i h
    have : 256 ≤ s.log.records.length := by simp [Config.logCapacity] at h; omega
    have e : ∀ t : State, t.accountLoss.count c = if c = .logRecordsLost then t.count c + 1 else t.count c := by
      intro t
      simp only [State.accountLoss, State.setStatus_count, State.bump_eq, State.bumpBy_count]
      split <;> simp_all <;> rfl
    split <;> simp [e, this]

/-- A record sets LOG_LOSS when one is lost, LOG_THRESHOLD when its append reaches the threshold, and no other status
(R102, R103). -/
@[simp] theorem State.logRecord_isSet (b : RecordBody) (k : EventKind) (s : State) :
    (s.logRecord b).events.isSet k = (s.events.isSet k
      || decide (k = .logThreshold ∧ s.log.records.length < 256 ∧ s.log.records.length + 1 = s.log.threshold)
      || decide (k = .logLoss ∧ 256 ≤ s.log.records.length)) := by
  unfold State.logRecord
  split
  · rename_i h
    simp only [Config.logCapacity] at h
    have : ¬ 256 ≤ s.log.records.length := by omega
    simp only [State.judgeThreshold]
    split <;> rename_i g <;> simp [State.putRecords] at g <;> simp [h, this, g] <;>
      rcases k <;> simp
  · rename_i h
    simp only [Config.logCapacity] at h
    have g : 256 ≤ s.log.records.length := by omega
    split <;> simp [State.accountLoss, h, g] <;> cases k <;> simp <;> rfl

/-! ### What each shared operation leaves alone -/

theorem frame_bumpBy (n : Nat) (c : Counter) (s : State) : SameBut [.counter c] s (s.bumpBy n c) := by
  intro p hp; cases p <;> simp_all [Part.Kept]

theorem frame_setLink (p : PortName) (l : Link) (s : State) : SameBut [.link p] s (s.setLink p l) := by
  intro q hq; cases q <;> simp_all [Part.Kept]

theorem frame_setEntry (i : EntryIndex) (e : Entry) (s : State) : SameBut [.entry i] s (s.setEntry i e) := by
  intro p hp; cases p <;> simp_all [Part.Kept]

theorem frame_setMeter (m : Fin Config.meters) (x : Meter) (s : State) : SameBut [.meter m] s (s.setMeter m x) := by
  intro p hp; cases p <;> simp_all [Part.Kept]

theorem frame_evalNotice (s : State) : SameBut noticeParts s s.evalNotice := by
  intro p hp; cases p <;> simp_all [Part.Kept, noticeParts]

theorem frame_setSender (n : NoticeSender) (slot : Option Notice) (s : State) :
    SameBut noticeParts s (s.setSender n slot) := by
  intro p hp; cases p <;> simp_all [Part.Kept, noticeParts]

/-- Fallback entry leaves all but the notice sender and its slot as its parts do (R152, R160). -/
theorem frame_enterFallback_steps (cause : FallbackCause) (s : State) :
    SameBut noticeParts (s.fallbackSteps cause) (s.enterFallback cause) :=
  ((frame_setSender _ _ _).trans (frame_evalNotice _)).mono (by simp)

theorem frame_setStatus (k : EventKind) (s : State) : SameBut (statusParts k) s (s.setStatus k) := by
  intro p hp; cases p <;> simp_all [Part.Kept, statusParts, noticeParts]

theorem frame_followHolds (s : State) : SameBut (statusParts .holdWaiting) s s.followHolds := by
  intro p hp; cases p <;> simp_all [Part.Kept, statusParts, noticeParts]

theorem frame_logRecord (b : RecordBody) (s : State) : SameBut recordParts s (s.logRecord b) := by
  intro p hp; cases p <;> simp_all [Part.Kept, recordParts, noticeParts]

theorem frame_pushReply (r : Reply) (s : State) : SameBut [.replies] s (s.pushReply r) := by
  intro p hp; cases p <;> simp_all [Part.Kept]

theorem frame_loadLiveness (s : State) : SameBut [.liveness] s s.loadLiveness := by
  intro p hp; cases p <;> simp_all [Part.Kept]

theorem frame_joinReturns (i : EntryIndex) (s : State) : SameBut [.returns] s (s.joinReturns i) := by
  intro p hp; cases p <;> simp_all [Part.Kept]

theorem frame_joinNodeQueue (i : EntryIndex) (s : State) : SameBut [.nodeQueue] s (s.joinNodeQueue i) := by
  intro p hp; cases p <;> simp_all [Part.Kept]

theorem frame_dropHold (i : EntryIndex) (s : State) : SameBut [.holdQueue] s (s.dropHold i) := by
  intro p hp; cases p <;> simp_all [Part.Kept]

theorem frame_withdrawNotice (s : State) :
    SameBut [.noticeSender, .slot, .stationTransmission] s s.withdrawNotice := by
  intro p hp; cases p <;> simp_all [Part.Kept]

/-- At the end of a step a transmission under way goes on (R173, R177). -/
theorem frame_settle (s : State) : SameBut [] s s.settle := by
  intro p _; cases p <;> simp [Part.Kept, StationPort.arbitrated, NodePort.started]
  · cases h : s.sPort.sending <;> simp
  · intro h; simp [h]

end Sys2Proof.Machine
end

