-- ==== Sys2Proof/Laws/Entries.lean ====
section
/-! SUPPORT. What giving an entry its answer, the forward step and the removal of a hold do. -/
namespace Sys2Proof.Machine

/-! ### Lists of records -/

@[simp] theorem logAfterAll_nil (e : EpochTimer) (l : CaptureLog) : logAfterAll e l [] = l := rfl

@[simp] theorem logAfterAll_cons (e : EpochTimer) (l : CaptureLog) (b : RecordBody) (bs : List RecordBody) :
    logAfterAll e l (b :: bs) = logAfterAll e (logAfter e l b) bs := rfl

theorem logAfterAll_append (e : EpochTimer) (l : CaptureLog) (bs cs : List RecordBody) :
    logAfterAll e l (bs ++ cs) = logAfterAll e (logAfterAll e l bs) cs := List.foldl_append

@[simp] theorem loggingParts_nil : loggingParts [] = [] := rfl

@[simp] theorem loggingParts_cons (b : RecordBody) (bs : List RecordBody) : loggingParts (b :: bs) = recordParts := rfl

theorem mem_loggingParts_append {p : Part} {bs cs : List RecordBody} :
    p ∈ loggingParts (bs ++ cs) ↔ p ∈ loggingParts bs ∨ p ∈ loggingParts cs := by
  cases bs <;> cases cs <;> simp

/-! ### The answer -/

/-- A record counts nothing but a loss. -/
@[simp] theorem State.logCompletion_count (x : Txn) (a : Answer) (c : Counter) (s : State) (h : c ≠ .logRecordsLost) :
    (s.logCompletion x a).count c = s.count c := by
  unfold State.logCompletion
  cases x.logLevel <;> simp
  cases completionRecord x a <;> simp [h]

/-- The completion record of an answer, present at level PAIR (R20). -/
def completionRecords (x : Txn) (a : Answer) : List RecordBody :=
  if x.logLevel = .pair then (completionRecord x a).toList else []

@[simp] theorem State.logCompletion_log (x : Txn) (a : Answer) (s : State) :
    (s.logCompletion x a).log = logAfterAll s.epoch s.log (completionRecords x a) := by
  unfold State.logCompletion completionRecords
  cases h : x.logLevel <;> simp
  cases g : completionRecord x a <;> simp

theorem frame_logCompletion (x : Txn) (a : Answer) (s : State) :
    SameBut (loggingParts (completionRecords x a)) s (s.logCompletion x a) := by
  unfold State.logCompletion completionRecords
  cases h : x.logLevel <;> simp [SameBut.refl]
  cases g : completionRecord x a <;> simp [SameBut.refl, frame_logRecord]

theorem frame_countAnswer (a : Answer) (s : State) :
    SameBut (match a with | .node _ _ _ => [] | .refusal c => [.counter (.refusals c)]) s (s.countAnswer a) := by
  cases a
  · exact SameBut.refl _ _
  · exact frame_bumpBy _ _ _

theorem frame_queueAnswer (i : EntryIndex) (s : State) :
    SameBut [.entry i, .returns, .counter .answersDiscarded] s (s.queueAnswer i) := by
  unfold State.queueAnswer
  split
  · exact (frame_joinReturns i s).mono (by simp)
  · exact ((frame_setEntry i _ s).trans (frame_bumpBy 1 _ _)).mono (by simp)

/-- Giving an entry its answer leaves everything else alone (R9). -/
theorem frame_becomeReturning (i : EntryIndex) (x : Txn) (a : Answer) (s : State) :
    SameBut (answerParts i a ++ loggingParts (completionRecords x a)) s (s.becomeReturning i x a) := by
  refine ((((frame_setEntry i ⟨s.generation i, .returning x a⟩ s).trans (frame_countAnswer a _)).trans
    (frame_logCompletion x a _)).trans (frame_queueAnswer i _)).mono ?_
  intro p hp
  cases a <;> simp [answerParts] at hp ⊢ <;> grind

@[simp] theorem State.becomeReturning_log (i : EntryIndex) (x : Txn) (a : Answer) (s : State) :
    (s.becomeReturning i x a).log = logAfterAll s.epoch s.log (completionRecords x a) := by
  simp [State.becomeReturning]

@[simp] theorem State.becomeReturning_table (i j : EntryIndex) (x : Txn) (a : Answer) (s : State) :
    (s.becomeReturning i x a).table[j.val]
      = if j = i then ⟨s.generation i, if s.sPort.link.isUp then .returning x a else .free⟩ else s.table[j.val] := by
  cases u : s.sPort.link.isUp <;> cases a <;> by_cases h : j = i <;>
    simp [State.becomeReturning, State.queueAnswer, State.countAnswer, u, h]

@[simp] theorem State.becomeReturning_entryState (i j : EntryIndex) (x : Txn) (a : Answer) (s : State) :
    (s.becomeReturning i x a).entryState j
      = if j = i then (if s.sPort.link.isUp then .returning x a else .free) else s.entryState j := by
  simp only [State.entryState, Fin.getElem_fin, State.becomeReturning_table]
  split <;> rfl

@[simp] theorem State.becomeReturning_generation (i j : EntryIndex) (x : Txn) (a : Answer) (s : State) :
    (s.becomeReturning i x a).generation j = s.generation j := by
  simp only [State.generation, Fin.getElem_fin, State.becomeReturning_table]
  split <;> simp_all

@[simp] theorem State.becomeReturning_returns (i : EntryIndex) (x : Txn) (a : Answer) (s : State) :
    (s.becomeReturning i x a).sPort.returns
      = if s.sPort.link.isUp then s.sPort.returns ++ [i] else s.sPort.returns := by
  cases u : s.sPort.link.isUp <;> cases a <;>
    simp [State.becomeReturning, State.queueAnswer, State.countAnswer, u]

/-- A node response counts only as an answer discarded, while the S-port is not UP (R9). -/
@[simp] theorem State.becomeReturning_node_count (i : EntryIndex) (x : Txn) (st : NodeStatus) (dt : Byte)
    (d : List Byte) (c : Counter) (s : State) (h : c ≠ .logRecordsLost) :
    (s.becomeReturning i x (.node st dt d)).count c
      = if c = .answersDiscarded then (if s.sPort.link.isUp then s.count c else s.count c + 1) else s.count c := by
  cases u : s.sPort.link.isUp <;> by_cases g : c = .answersDiscarded <;>
    simp [State.becomeReturning, State.queueAnswer, State.countAnswer, u, h, g]

/-- A refusal is counted by its cause, and as an answer discarded while the S-port is not UP (R9). -/
@[simp] theorem State.becomeReturning_refusal_count (i : EntryIndex) (x : Txn) (k : RefusalCause) (c : Counter)
    (s : State) (h : c ≠ .logRecordsLost) : (s.becomeReturning i x (.refusal k)).count c
      = if c = .answersDiscarded then (if s.sPort.link.isUp then s.count c else s.count c + 1)
        else if c = .refusals k then s.count c + 1 else s.count c := by
  cases u : s.sPort.link.isUp <;> by_cases g : c = .answersDiscarded <;>
    simp [State.becomeReturning, State.queueAnswer, State.countAnswer, u, h, g]
  all_goals by_cases e : c = .refusals k <;> simp [e]

/-- An entry given its answer waits in the Return queue, or is freed and counted as discarded (R9). -/
theorem becomeReturning_given (i : EntryIndex) (x : Txn) (a : Answer) (s : State) :
    GivenAnswer i (s.generation i) x a s (s.becomeReturning i x a) := by
  constructor
  · simp
  · simp
  · cases a <;> simp
  · rintro c rfl; simp

/-! ### The forward step -/

@[simp] theorem State.forward_log (i : EntryIndex) (x : Txn) (s : State) :
    (s.forward i x).log = logAfterAll s.epoch s.log (forwardRecords x s) := by
  unfold State.forward forwardRecords
  cases u : s.nPort.link.isUp <;> simp [completionRecords, completionRecord]

@[simp] theorem State.forward_table (i j : EntryIndex) (x : Txn) (s : State) :
    (s.forward i x).table[j.val] = if j = i then ⟨s.generation i,
      if s.nPort.link.isUp then .queued x else if s.sPort.link.isUp then .returning x (.refusal .linkDown) else .free⟩
      else s.table[j.val] := by
  unfold State.forward
  cases u : s.nPort.link.isUp <;> by_cases h : j = i <;> simp [h]

@[simp] theorem State.forward_entryState (i j : EntryIndex) (x : Txn) (s : State) :
    (s.forward i x).entryState j = if j = i then
      (if s.nPort.link.isUp then .queued x else if s.sPort.link.isUp then .returning x (.refusal .linkDown) else .free)
      else s.entryState j := by
  simp only [State.entryState, Fin.getElem_fin, State.forward_table]
  split <;> rfl

@[simp] theorem State.forward_generation (i j : EntryIndex) (x : Txn) (s : State) :
    (s.forward i x).generation j = s.generation j := by
  simp only [State.generation, Fin.getElem_fin, State.forward_table]
  split <;> simp_all

@[simp] theorem State.forward_nPort_queue (i : EntryIndex) (x : Txn) (s : State) :
    (s.forward i x).nPort.queue = if s.nPort.link.isUp then s.nPort.queue ++ [i] else s.nPort.queue := by
  unfold State.forward
  split <;> simp

@[simp] theorem State.forward_returns (i : EntryIndex) (x : Txn) (s : State) :
    (s.forward i x).sPort.returns
      = if s.nPort.link.isUp then s.sPort.returns
        else if s.sPort.link.isUp then s.sPort.returns ++ [i] else s.sPort.returns := by
  unfold State.forward
  cases s.nPort.link.isUp <;> simp

@[simp] theorem State.forward_count (i : EntryIndex) (x : Txn) (c : Counter) (s : State) (h : c ≠ .logRecordsLost) :
    (s.forward i x).count c
      = if s.nPort.link.isUp then s.count c
        else if c = .answersDiscarded then (if s.sPort.link.isUp then s.count c else s.count c + 1)
        else if c = .refusals .linkDown then s.count c + 1 else s.count c := by
  unfold State.forward
  cases s.nPort.link.isUp <;> simp [h]

/-- The forward step leaves everything else alone (R8). -/
theorem frame_forward (i : EntryIndex) (x : Txn) (s : State) :
    SameBut (forwardParts i s ++ loggingParts (forwardRecords x s)) s (s.forward i x) := by
  unfold State.forward forwardParts forwardRecords
  cases u : s.nPort.link.isUp
  · refine (frame_becomeReturning i x (.refusal .linkDown) s).mono ?_
    cases h : x.logLevel <;> simp [completionRecords, completionRecord, h]
  · exact ((frame_joinNodeQueue i s).trans (frame_setEntry i _ _)).mono (by simp)

/-! ### The removal of a hold -/

@[simp] theorem State.removeHold_log (i : EntryIndex) (b : RecordBody) (s : State) :
    (s.removeHold i b).log = logAfter s.epoch s.log b := by simp [State.removeHold]

@[simp] theorem State.removeHold_holdQueue (i : EntryIndex) (b : RecordBody) (s : State) :
    (s.removeHold i b).holdQueue = s.holdQueue.filter fun r => r.index ≠ i := by simp [State.removeHold]

@[simp] theorem State.removeHold_count (i : EntryIndex) (b : RecordBody) (c : Counter) (s : State)
    (h : c ≠ .logRecordsLost) : (s.removeHold i b).count c = s.count c := by simp [State.removeHold, h]

@[simp] theorem State.removeHold_isSet (i : EntryIndex) (b : RecordBody) (k : EventKind) (s : State) :
    (s.removeHold i b).events.isSet k
      = ((if k = .holdWaiting then !(s.holdQueue.filter fun r => r.index ≠ i).isEmpty else s.events.isSet k)
      || decide (k = .logThreshold ∧ s.log.records.length < 256 ∧ s.log.records.length + 1 = s.log.threshold)
      || decide (k = .logLoss ∧ 256 ≤ s.log.records.length)) := by
  simp [State.removeHold]

/-- The removal of a hold leaves everything else alone (R50). -/
theorem frame_removeHold (i : EntryIndex) (b : RecordBody) (s : State) :
    SameBut ([.holdQueue] ++ statusParts .holdWaiting ++ recordParts) s (s.removeHold i b) :=
  ((frame_dropHold i s).trans (frame_followHolds _)).trans (frame_logRecord b _)

/-! ### The DECISION record -/

@[simp] theorem State.logDecision_log (x : Txn) (b : RecordBody) (s : State) :
    (s.logDecision x b).log = logAfterAll s.epoch s.log (if x.logLevel = .none then [] else [b]) := by
  unfold State.logDecision
  cases x.logLevel <;> simp

@[simp] theorem State.logDecision_count (x : Txn) (b : RecordBody) (c : Counter) (s : State)
    (h : c ≠ .logRecordsLost) : (s.logDecision x b).count c = s.count c := by
  unfold State.logDecision
  cases x.logLevel <;> simp [h]

theorem frame_logDecision (x : Txn) (b : RecordBody) (s : State) :
    SameBut (loggingParts (if x.logLevel = .none then [] else [b])) s (s.logDecision x b) := by
  unfold State.logDecision
  cases x.logLevel <;> simp [SameBut.refl, frame_logRecord]

end Sys2Proof.Machine
end

