-- ==== Sys2Proof/Laws/Agent.lean ====
section
/-! SUPPORT. How an event reaches the part, what the Agent does for a command whatever the command is, and the layout of a
log record. -/
namespace Sys2Proof.Machine

/-! ### Events -/

theorem taken_running {s : State} (h : s.heldInReset = false) (f : State → State) :
    taken f s = .next (f s).settle := by simp [taken, h]

theorem taken_held {s : State} (h : s.heldInReset = true) (f : State → State) : taken f s = .next s := by
  simp [taken, h]

theorem acceptedAt_reaches {p : PortName} {s : State} (h : FrameReaches p s) (f : State → State) :
    acceptedAt p f s = .next (f (s.accept p)).settle := by
  simp [acceptedAt, taken_running h.running, h.linkUp]

theorem frame_accept (p : PortName) (s : State) : SameBut (frameParts p) s (s.accept p) :=
  ((frame_setLink p (.up none) s).trans (frame_bumpBy 1 (.framesAccepted p) _)).mono (by simp [frameParts])

theorem FrameTaken.accept {p : PortName} {s : State} : FrameTaken p s (s.accept p) := by
  constructor <;> simp

/-! ### Numbers in bytes -/

@[simp] theorem bigEndian_zero (x : Nat) : bigEndian 0 x = [] := rfl

@[simp] theorem bigEndian_succ (n x : Nat) :
    bigEndian (n + 1) x = BitVec.ofNat 8 (x / 256 ^ n) :: bigEndian n x := rfl

theorem bytesOf16_eq (x : Half) : bigEndian 2 x.toNat = bytesOf16 x := by
  simp only [bigEndian, bytesOf16]
  congr 1
  · apply BitVec.eq_of_toNat_eq; simp [BitVec.extractLsb'_toNat, Nat.shiftRight_eq_div_pow]
  · congr 1
    apply BitVec.eq_of_toNat_eq; simp [BitVec.extractLsb'_toNat]

@[simp] theorem field_one (b : Byte) (rest : List Byte) : field (b :: rest) 0 1 = b.toNat := by
  simp [field, spelled]

/-! ### Commands -/

theorem agent_reaches {s : State} (h : CommandReaches s) (f : State → State) :
    agent f s = .next (f (s.accept .station)).settle := by
  simp [agent, acceptedAt_reaches h.reaches, h.notAwaited, h.room, Config.replyCapacity]

theorem sessionChecked_new {h : CommandHeader} {o : OpenSession} {s : State} (n : NewCommand h o s) (code : Byte)
    (f : OpenSession → State → State) : sessionChecked code h f (s.accept .station) = f o (s.accept .station) := by
  simp [sessionChecked, n.opened, n.fromOwner, n.expected]

theorem command_new {h : CommandHeader} {o : OpenSession} {s : State} (n : NewCommand h o s) (c : CommandName)
    (args : List Byte) (body : State → Answered) :
    command c h args body s
      = .next (answerNew c.code h o (executed c args body (s.accept .station))).settle := by
  rw [command, agent_reaches n.reaches, sessionChecked_new n]

/-- What the Agent does after executing a new command, from what the execution left (R137). -/
theorem answers_of_effect {h : CommandHeader} {o : OpenSession} {s : State} (n : NewCommand h o s) (code : Byte)
    (r : Answered) (changed : List Part) (frame : SameBut changed (s.accept .station) r.state)
    (noFrames : Part.counter (.framesAccepted .station) ∉ changed) (noLink : Part.link .station ∉ changed)
    (noReplies : Part.replies ∉ changed) (noNow : Part.now ∉ changed) :
    Answers code h o r.result r.payload changed s (answerNew code h o r).settle := by
  have kl := frame _ noLink
  have kc := frame _ noFrames
  have kr := frame _ noReplies
  have kn := frame _ noNow
  simp only [Part.Kept, State.accept_link, if_true, State.accept_count, State.accept_sPort_replies,
    State.accept_now] at kl kc kr kn
  refine ⟨⟨?_, ?_⟩, ?_, ?_, ?_, ?_⟩
  · simpa [answerNew, State.pushReply, State.loadLiveness, State.settle, State.link] using kl
  · simpa [answerNew, State.pushReply, State.loadLiveness, State.settle, State.count] using kc
  · simp [answerNew, kr, replyTo]
  · simp [answerNew, replyTo, nextNumber]
  · simp [answerNew, State.livenessDeadline, millis, kn]; omega
  · have f1 : SameBut [.session] r.state { r.state with session := { r.state.session with
        current := some { o with
          expected := nextNumber o.expected
          last := some ⟨h.sequence, replyTo code h r.result r.payload⟩ } } } := by
      intro p hp; cases p <;> simp_all [Part.Kept, State.count, State.link]
    refine ((((((frame_accept .station s).trans frame).trans f1).trans (frame_loadLiveness _)).trans
      (frame_pushReply _ _)).trans (frame_settle _)).mono ?_
    intro p hp
    simp at hp ⊢
    grind

/-- A command that is only answered (R136, R139). -/
theorem onlyAnswers_turnAway (code : Byte) (h : CommandHeader) (result : ResultCode) (payload : List Byte) (s : State) :
    OnlyAnswers code h result payload s ((s.accept .station).turnAway code h result payload).settle := by
  refine ⟨⟨?_, ?_⟩, ?_, ?_⟩
  · simp [State.turnAway]
  · simp [State.turnAway]
  · simp [State.turnAway, replyTo]
  · exact (((frame_accept .station s).trans (frame_pushReply _ _)).trans (frame_settle _)).mono (by simp)

/-! ### The log record -/

theorem RecordBody.flags_bits (b : RecordBody) : ∀ k < 8, b.flags.getLsbD k = (flagBits b).getD k false := by
  obtain ⟨kind, parties, access, table, decision, ruleSlot, meter, byFallback, cause, snippet⟩ := b
  rcases parties <;> rcases access <;> rcases ruleSlot <;> rcases meter with _ | ⟨m, _ | _⟩ <;> rcases byFallback <;>
    simp only [RecordBody.flags, flagBits, Option.isSome, Option.map, Option.getD, ite_true, Bool.false_eq_true,
      ite_false] <;> decide

theorem causeByte_eq (c : Option RecordCause) : (c.map (·.code)).getD 0 = causeByte c := by
  rcases c with _ | (c | c | c) <;> first | rfl | (cases c <;> rfl)

theorem kindByte_eq (k : RecordKind) : k.code = kindByte k := by cases k <;> rfl

/-- A log record has the layout of R190. -/
theorem recordBytes_laidOut (r : LogRecord) : RecordLaidOut r (recordBytes r) := by
  refine ⟨r.body.flags, RecordBody.flags_bits r.body, ?_⟩
  simp only [recordBytes, causeByte_eq, kindByte_eq, bytesOf16_eq, padded, TableId.bytes, List.append_assoc]
  congr 5
  congr 1
  · rcases r.body.access with _ | ⟨_ | _ | _, _⟩ <;> rfl
  · congr 2
    · rcases r.body.decision with _ | _ | _ | _ <;> rfl
    · congr 1
      · rcases r.body.ruleSlot with _ | n <;> simp [bigEndian]
      · congr 1
        · rcases r.body.meter with _ | m <;> simp [bigEndian]
        · simp [bigEndian]

end Sys2Proof.Machine
end

