-- ==== Sys2Proof/Laws/PerInstr.lean ====
section
/-! SUPPORT. A fact about every row of the opcode table: a well-formed row that is a COMMAND frame is the row that the
frame's code, header and arguments name (R140, R185). -/
namespace Sys2Proof.Laws.CommandFrames

open Sys2Proof Sys2Proof.Machine

/-- The COMMAND frame a row stands for names that row again. -/
def Statement (i : Instr) : Prop :=
  ∀ code h args, i.wellFormed = true → commandFrame? i = some (code, h, args) → commandRow code h args = i

/-- A command of the catalogue is named by its own code. -/
theorem ofCode_code (c : CommandName) : CommandName.ofCode c.code = some c := by cases c <;> decide

/-- A row of the catalogue has the statement. -/
theorem named (c : CommandName) (h : CommandHeader) (args : List Byte)
    (frame : commandFrame? (c.row h args) = some (c.code, h, args)) : Statement (c.row h args) := by
  intro code h' args' _ e
  rw [frame] at e
  obtain ⟨rfl, rfl, rfl⟩ : c.code = code ∧ h = h' ∧ args = args' := by simpa using e
  simp [commandRow, ofCode_code]

theorem rstNAsserted : Statement (.rstNAsserted) := by intro _ _ _ _ e; cases e

theorem powerOnReset (straps : BitVec 6) (start : StartStrap) : Statement (.powerOnReset straps start) := by intro _ _ _ _ e; cases e

theorem signalDetected (p : PortName) : Statement (.signalDetected p) := by intro _ _ _ _ e; cases e

theorem validIdleSymbol (p : PortName) : Statement (.validIdleSymbol p) := by intro _ _ _ _ e; cases e

theorem otherSymbol (p : PortName) (x : LineSymbol) : Statement (.otherSymbol p x) := by intro _ _ _ _ e; cases e

theorem lossOfSignal (p : PortName) : Statement (.lossOfSignal p) := by intro _ _ _ _ e; cases e

theorem frameRejected (p : PortName) (f : FrameCheck) : Statement (.frameRejected p f) := by intro _ _ _ _ e; cases e

theorem requestArrival (q : Request) (t : Stamp) : Statement (.requestArrival q t) := by intro _ _ _ _ e; cases e

theorem responseArrival (r : Response) : Statement (.responseArrival r) := by intro _ _ _ _ e; cases e

theorem responseDeadlineExpiry (i : Fin Config.entries) : Statement (.responseDeadlineExpiry i) := by intro _ _ _ _ e; cases e

theorem nodeTransmitComplete : Statement (.nodeTransmitComplete) := by intro _ _ _ _ e; cases e

theorem sPortTransmitComplete : Statement (.sPortTransmitComplete) := by intro _ _ _ _ e; cases e

theorem holdDeadlineExpiry (i : Fin Config.entries) : Statement (.holdDeadlineExpiry i) := by intro _ _ _ _ e; cases e

theorem epochBoundary : Statement (.epochBoundary) := by intro _ _ _ _ e; cases e

theorem syncInEdge (x : SyncTransition) : Statement (.syncInEdge x) := by intro _ _ _ _ e; cases e

theorem livenessExpiry : Statement (.livenessExpiry) := by intro _ _ _ _ e; cases e

theorem noticeRetryExpiry : Statement (.noticeRetryExpiry) := by intro _ _ _ _ e; cases e

theorem probe (h : CommandHeader) (args : List Byte) : Statement (.probe h args) := named .probe h args rfl

theorem openSession (h : CommandHeader) (args : List Byte) : Statement (.openSession h args) := named .openSession h args rfl

theorem closeSession (h : CommandHeader) (args : List Byte) : Statement (.closeSession h args) := named .closeSession h args rfl

theorem keepalive (h : CommandHeader) (args : List Byte) : Statement (.keepalive h args) := named .keepalive h args rfl

theorem resetPart (h : CommandHeader) (args : List Byte) : Statement (.resetPart h args) := named .resetPart h args rfl

theorem unknownCommand (code : Byte) (h : CommandHeader) (args : List Byte) :
    Statement (.unknownCommand code h args) := by
  intro code' h' args' wf e
  obtain ⟨rfl, rfl, rfl⟩ : code = code' ∧ h = h' ∧ args = args' := by simpa [commandFrame?] using e
  have unnamed : CommandName.ofCode code = none := by
    simp [Instr.wellFormed] at wf; exact wf.2
  simp [commandRow, unnamed]

theorem getStatus (h : CommandHeader) (args : List Byte) : Statement (.getStatus h args) := named .getStatus h args rfl

theorem clearEvents (h : CommandHeader) (args : List Byte) : Statement (.clearEvents h args) := named .clearEvents h args rfl

theorem setEvents (h : CommandHeader) (args : List Byte) : Statement (.setEvents h args) := named .setEvents h args rfl

theorem ackNotice (h : CommandHeader) (args : List Byte) : Statement (.ackNotice h args) := named .ackNotice h args rfl

theorem setNoticeRetry (h : CommandHeader) (args : List Byte) : Statement (.setNoticeRetry h args) := named .setNoticeRetry h args rfl

theorem setLiveness (h : CommandHeader) (args : List Byte) : Statement (.setLiveness h args) := named .setLiveness h args rfl

theorem enterFallback (h : CommandHeader) (args : List Byte) : Statement (.enterFallback h args) := named .enterFallback h args rfl

theorem resume (h : CommandHeader) (args : List Byte) : Statement (.resume h args) := named .resume h args rfl

theorem writeRule (h : CommandHeader) (args : List Byte) : Statement (.writeRule h args) := named .writeRule h args rfl

theorem eraseRule (h : CommandHeader) (args : List Byte) : Statement (.eraseRule h args) := named .eraseRule h args rfl

theorem clearShadow (h : CommandHeader) (args : List Byte) : Statement (.clearShadow h args) := named .clearShadow h args rfl

theorem copyActiveToShadow (h : CommandHeader) (args : List Byte) : Statement (.copyActiveToShadow h args) := named .copyActiveToShadow h args rfl

theorem writeBankParams (h : CommandHeader) (args : List Byte) : Statement (.writeBankParams h args) := named .writeBankParams h args rfl

theorem readRule (h : CommandHeader) (args : List Byte) : Statement (.readRule h args) := named .readRule h args rfl

theorem readBankParams (h : CommandHeader) (args : List Byte) : Statement (.readBankParams h args) := named .readBankParams h args rfl

theorem writeFallbackRule (h : CommandHeader) (args : List Byte) : Statement (.writeFallbackRule h args) := named .writeFallbackRule h args rfl

theorem eraseFallbackRule (h : CommandHeader) (args : List Byte) : Statement (.eraseFallbackRule h args) := named .eraseFallbackRule h args rfl

theorem writeFallbackParams (h : CommandHeader) (args : List Byte) : Statement (.writeFallbackParams h args) := named .writeFallbackParams h args rfl

theorem readFallback (h : CommandHeader) (args : List Byte) : Statement (.readFallback h args) := named .readFallback h args rfl

theorem commit (h : CommandHeader) (args : List Byte) : Statement (.commit h args) := named .commit h args rfl

theorem abortCommit (h : CommandHeader) (args : List Byte) : Statement (.abortCommit h args) := named .abortCommit h args rfl

theorem listHolds (h : CommandHeader) (args : List Byte) : Statement (.listHolds h args) := named .listHolds h args rfl

theorem release (h : CommandHeader) (args : List Byte) : Statement (.release h args) := named .release h args rfl

theorem deny (h : CommandHeader) (args : List Byte) : Statement (.deny h args) := named .deny h args rfl

theorem readMeters (h : CommandHeader) (args : List Byte) : Statement (.readMeters h args) := named .readMeters h args rfl

theorem getTime (h : CommandHeader) (args : List Byte) : Statement (.getTime h args) := named .getTime h args rfl

theorem alignEpoch (h : CommandHeader) (args : List Byte) : Statement (.alignEpoch h args) := named .alignEpoch h args rfl

theorem setSync (h : CommandHeader) (args : List Byte) : Statement (.setSync h args) := named .setSync h args rfl

theorem readLog (h : CommandHeader) (args : List Byte) : Statement (.readLog h args) := named .readLog h args rfl

theorem setLog (h : CommandHeader) (args : List Byte) : Statement (.setLog h args) := named .setLog h args rfl

theorem readCounters (h : CommandHeader) (args : List Byte) : Statement (.readCounters h args) := named .readCounters h args rfl

end Sys2Proof.Laws.CommandFrames
end

