-- ==== Sys2Proof/Tests/Slice0.lean ====
section
/-! SUPPORT. Tests on small states: ill-formed commands, the manual's own figures, one step of each family, and states
that meet the hypotheses of each statement. -/
namespace Sys2Proof.Tests

open Sys2Proof Sys2Proof.Machine

set_option Elab.async false

/-! ### Small states -/

/-- After reset, with both ports UP. -/
def up : State :=
  { State.reset with sPort := ⟨.up none, [], none, [], [], none⟩, nPort := ⟨.up none, [], false⟩ }

/-- Station 5 owns the session. -/
def owner : OpenSession := ⟨5, 1, none⟩

/-- Both ports UP, with a session open. -/
def inSession : State :=
  { up with
    session := ⟨some owner, 1, false⟩
    control := { up.control with liveness := .running 5000000 } }

/-- The header of the owner's next command. -/
def header : CommandHeader := ⟨5, 7, 1⟩

/-- A WRITE from station 5 to node 10. -/
def request : Request := ⟨5, 10, 3, 0x100, .write [0xAA, 0xBB]⟩

/-- The request as an entry holds it. -/
def txn : Txn := ⟨request, 0, .active 0, some 0, .hold, .pair, 20⟩

/-- Node 10's answer to it. -/
def response : Response := ⟨5, 10, 3, .ok, 0, [0x11]⟩

/-- The arrival stamp of offset 0. -/
def stamp : Stamp := ⟨0, 0⟩

/-- Every address, operation, register and station. -/
def anything : Selector := ⟨1, 62, ⟨true, true, true⟩, 0, 0xFFFF, none⟩

/-- A rule for everything, with an action. -/
def ruleFor (a : RuleAction) : Rule := ⟨anything, none, a, .pair⟩

/-- A state whose active bank has one rule for everything. -/
def ruled (a : RuleAction) : State :=
  { up with active := { up.active with slots := up.active.slots.set 0 (some (ruleFor a)) } }

/-- A state with entry 0 in some state. -/
def entryZero (st : EntryState) (s : State) : State := s.setEntryState 0 st

/-- Entry 0 held with a hold deadline, and in the hold queue. -/
def holding (d : PassRefuse) (s : State) : State :=
  { entryZero (.held txn ⟨60000, d, 60000000⟩) s with
    holdQueue := [⟨0, 0⟩], events := { s.events with status := 1 } }

/-! ### Ill-formed commands -/

theorem test_requestAddresses :
    (Instr.requestArrival { request with station := 0 } stamp).wellFormed = false
    ∧ (Instr.requestArrival { request with node := 63 } stamp).wellFormed = false
    ∧ (Instr.requestArrival request stamp).wellFormed = true := by decide

theorem test_requestLengths :
    (Instr.requestArrival { request with body := .read 0 } stamp).wellFormed = false
    ∧ (Instr.requestArrival { request with body := .read 65 } stamp).wellFormed = false
    ∧ (Instr.requestArrival { request with body := .write [] } stamp).wellFormed = false
    ∧ (Instr.requestArrival { request with body := .write (List.replicate 65 0) } stamp).wellFormed = false
    ∧ (Instr.requestArrival { request with register := 9, body := .exec (List.replicate 17 0) } stamp).wellFormed = false
    ∧ (Instr.requestArrival { request with register := 256, body := .exec [] } stamp).wellFormed = false := by
  decide +kernel

theorem test_stampOffset : (Instr.requestArrival request ⟨0, 1000000⟩).wellFormed = false := by
  simp [Instr.wellFormed, Stamp.wellFormed]

theorem test_responseFields :
    (Instr.responseArrival { response with station := 63 }).wellFormed = false
    ∧ (Instr.responseArrival { response with node := 0 }).wellFormed = false
    ∧ (Instr.responseArrival { response with data := List.replicate 65 0 }).wellFormed = false := by decide +kernel

theorem test_commandFields :
    (Instr.keepalive { header with source := 0 } []).wellFormed = false
    ∧ (Instr.keepalive header (List.replicate 70 0)).wellFormed = false
    ∧ (Instr.unknownCommand 0x04 header []).wellFormed = false
    ∧ (Instr.unknownCommand 0x07 header []).wellFormed = true := by decide +kernel

/-! ### Figures of the manual -/

/-- Section 11.1: the check sequence of "123456789" is 0x29B1. -/
theorem test_checkSequence : crc16 [0x31, 0x32, 0x33, 0x34, 0x35, 0x36, 0x37, 0x38, 0x39] = 0x29B1 := by
  decide +kernel

/-- Section 2.2: a window that opens at 2,000 and closes at 3,000, and one that wraps. -/
theorem test_windows :
    Window.contains ⟨2000, 3000⟩ 1999 = false ∧ Window.contains ⟨2000, 3000⟩ 2000 = true
    ∧ Window.contains ⟨2000, 3000⟩ 2999 = true ∧ Window.contains ⟨2000, 3000⟩ 3000 = false
    ∧ Window.contains ⟨9000, 1000⟩ 9000 = true ∧ Window.contains ⟨9000, 1000⟩ 999 = true
    ∧ Window.contains ⟨9000, 1000⟩ 1000 = false ∧ Window.contains ⟨9000, 1000⟩ 8999 = false := by decide

/-- The bank of section 2.9. -/
def exampleSlots : List (Option Rule) :=
  [some ⟨⟨20, 20, ⟨false, true, false⟩, 4096, 4111, none⟩, none, .hold 30000 .refuse, .pair⟩,
   some ⟨⟨10, 19, ⟨true, false, false⟩, 0, 0xFFFF, none⟩, none, .meter 2, .none⟩,
   some ⟨⟨1, 62, ⟨false, true, false⟩, 0, 0xFFFF, some [4]⟩, some ⟨9000, 1000⟩, .refuse, .decision⟩]

/-- A verdict of that bank. -/
def exampleVerdict (q : Request) (offset : Nat) : Verdict :=
  verdictOf (.active 5) exampleSlots .passReads .decision 20 q offset

/-- Section 2.9: the six requests. -/
theorem test_exampleBank :
    exampleVerdict ⟨4, 12, 30, 100, .read 4⟩ 2500 = ⟨.active 5, some 1, .meter 2, .none, 20⟩
    ∧ exampleVerdict ⟨4, 20, 31, 4100, .write [1, 2]⟩ 3000 = ⟨.active 5, some 0, .hold 30000 .refuse, .pair, 20⟩
    ∧ exampleVerdict ⟨4, 21, 32, 8, .write [1, 2]⟩ 9400 = ⟨.active 5, some 2, .refuse, .decision, 20⟩
    ∧ exampleVerdict ⟨4, 21, 33, 8, .write [1, 2]⟩ 4000 = ⟨.active 5, none, .refuse, .decision, 20⟩
    ∧ exampleVerdict ⟨4, 15, 34, 0, .read 2⟩ 5200 = ⟨.active 5, some 1, .meter 2, .none, 20⟩
    ∧ exampleVerdict ⟨4, 15, 35, 0, .read 2⟩ 5900 = ⟨.active 5, some 1, .meter 2, .none, 20⟩ := by decide

/-- R185: the catalogue's codes are apart, and a code outside it names no command. -/
theorem test_codes : (CommandName.all.map CommandName.code).Nodup ∧ CommandName.ofCode 0x07 = none := by decide

/-- No row of the table gives bits, so no word spells a command. -/
theorem test_noWords : decodeTableWord 16 0x1234 = none ∧ up.withFetchWord 16 0x1234 = up := ⟨rfl, rfl⟩

/-! ### One step of each family -/

/-- What the next state of an outcome has; nothing when there is no next state. -/
def after {α : Type} (c : Instr) (s : State) (look : State → α) : Option α :=
  match exec c s with
  | .next t => some (look t)
  | .fault _ => none
  | .refused _ => none

/-- R6, R8, R29: on a miss the request is passed to the N-port, which begins to send it. -/
theorem test_requestIsForwarded :
    after (.requestArrival request stamp) up (fun t => (t.entryState 0, t.generation 0, t.nPort.queue, t.nPort.busy))
      = some (.queued { txn with ruleSlot := none, decision := .pass, logLevel := .none }, 1, [0], true) := by
  decide +kernel

/-- R33, R47: a HOLD rule holds it, and HOLD_WAITING is set. -/
theorem test_requestIsHeld :
    after (.requestArrival request stamp) (ruled (.hold 60000 .pass))
        (fun t => (t.entryState 0, t.holdQueue, t.events.status, t.log.records.length))
      = some (.held txn ⟨60000, .pass, 60000000⟩, [⟨0, 1⟩], 1, 1) := by decide +kernel

/-- R4, R5: a request to the part's own address is refused, and the S-port sends the refusal. -/
theorem test_requestToOwnAddress :
    after (.requestArrival { request with node := 1 } stamp) up (fun t => (t.sPort.refusals, t.sLine))
      = some ([⟨5, 3, .badTarget⟩], .frame (frameBytes 0x02 5 1 3 [2, 1])) := by decide +kernel

/-- R11: a RESPONSE answers the entry in flight. -/
theorem test_responseIsReturned :
    after (.responseArrival response) (entryZero (.inFlight txn 20000) up) (fun t => (t.entryState 0, t.sPort.returns))
      = some (.returning txn (.node .ok 0 [0x11]), [0]) := by decide +kernel

/-- R131: the payload of PROBE. -/
theorem test_probe :
    after (.probe { header with sequence := 0 } []) up (fun t => t.sPort.replies)
      = some [⟨5, 7, 1, 0, .done, [0x54, 0xC1, 0x03, 0x18, 1, 1, 0, 0, 0, 0, 0, 0, 0, 0]⟩] := by decide +kernel

/-- R132: OPEN opens session 1 in GOVERNED with no commit pending. -/
theorem test_open :
    after (.openSession { header with sequence := 0 } []) up (fun t => (t.sPort.replies, t.session.current))
      = some ([⟨5, 7, 2, 0, .opened, [0, 1, 0, 0]⟩], some owner) := by decide +kernel

/-- R83: COMMIT of an empty shadow bank is accepted at generation 0 for generation 1. -/
theorem test_commit :
    after (.commit header []) inSession (fun t => (t.commit.state, t.sPort.replies.map (·.payload)))
      = some (.pending, [[0, 0, 0, 1, 0, 0, 0, 0, 0, 0, 0, 0, 0x27, 0x10]]) := by decide +kernel

/-- R54: RELEASE forwards the held request; a stale reference does not. -/
theorem test_release :
    after (.release header [0, 0]) (holding .refuse inSession) (fun t => (t.nPort.queue, t.holdQueue)) = some ([0], [])
    ∧ after (.release header [0, 1]) (holding .refuse inSession) (fun t => (t.sPort.replies.map (·.result), t.holdQueue))
      = some ([.notHeld], [⟨0, 0⟩]) := by decide +kernel

/-- R155: SET_LIVENESS changes the period before the reload. -/
theorem test_setLiveness :
    after (.setLiveness header [20]) inSession (fun t => (t.control.period, t.control.liveness))
      = some (20, .running 2000000) := by decide +kernel

/-- R187: a slot above 127 is the first field of WRITE_RULE. -/
theorem test_writeRuleBadSlot :
    after (.writeRule header (128 :: ruleBytes (ruleFor .pass))) inSession (fun t => t.sPort.replies.map (·.payload))
      = some [[1, 0]] := by decide +kernel

/-- R160: ENTER_FALLBACK reports record, holds resolved and no cancelled commit. -/
theorem test_enterFallback :
    after (.enterFallback header []) (holding .pass inSession)
        (fun t => (t.control.mode, t.nPort.queue, t.sPort.replies.map (·.payload)))
      = some (.fallback, [0], [[0, 1, 1, 0x21, 1, 0, 0, 0, 0, 1, 0]]) := by decide +kernel

/-- R152: the record of the hold that ENTER_FALLBACK resolves fills the log to its threshold, and the NOTICE that this
makes shows FALLBACK with nothing held and no commit pending. -/
theorem test_noticeOfFallbackEntry :
    after (.enterFallback header [])
        { holding .pass inSession with
          commit := ⟨.pending, 0⟩
          log := { inSession.log with threshold := 1 }
          events := { inSession.events with status := 1, enable := EventKind.mask .logThreshold } }
        (fun t => (t.sPort.slot, t.notice.number))
      = some (some ⟨5, 1, EventKind.mask .logThreshold, 0, 2, .fallback, .idle⟩, 1) := by decide +kernel

/-- R106: READ_LOG of an empty log. -/
theorem test_readLog :
    after (.readLog header [6]) inSession (fun t => t.sPort.replies.map (·.payload)) = some [[0, 0, 0, 0, 0, 0, 0]] := by
  decide +kernel

/-- R170, R183, R184: the eleven bytes of a READ of two bytes from register 8 of node 10. -/
theorem test_frameOfRead :
    (checkFrame .station 1 [0x01, 0x0A, 0x05, 0x03, 0x04, 0x01, 0x00, 0x08, 0x02, 0x83, 0x33]).toOption
      = some (.request ⟨5, 10, 3, 8, .read 2⟩) := by decide +kernel

/-- R66: the last microsecond of an epoch is followed by a boundary. -/
theorem test_tick :
    step { up with epoch := { up.epoch with offset := 9999 } }
      = .next { up with now := 1, epoch := { up.epoch with number := 1 } } := rfl

/-! ### States that meet the hypotheses of each statement -/

theorem up_free (i : EntryIndex) : up.entryState i = .free := by
  simp [up, State.reset, State.powerOn, resetTable, State.entryState]

/-- Nothing in the table, the queues and the hold queue: the law of the queues holds. -/
theorem queueLaw_of {s : State} (free : ∀ i, s.entryState i = .free) (holds : s.holdQueue = [])
    (waiting : s.events.isSet .holdWaiting = false) (queued : s.nPort.queue = []) (returns : s.sPort.returns = [])
    (idle : s.commit.state = .idle) : QueueLaw s := by
  constructor <;> simp_all

theorem newCommand : NewCommand header owner inSession := ⟨⟨⟨rfl, rfl⟩, rfl, by decide⟩, rfl, rfl, rfl⟩

theorem newCommand_held (d : PassRefuse) : NewCommand header owner (holding d inSession) :=
  ⟨⟨⟨rfl, rfl⟩, rfl, Nat.zero_lt_succ 3⟩, rfl, rfl, rfl⟩

/-- The session in mode FALLBACK. -/
def inFallback : State := { inSession with control := { inSession.control with mode := .fallback } }

theorem newCommand_inFallback : NewCommand header owner inFallback := ⟨⟨⟨rfl, rfl⟩, rfl, by decide⟩, rfl, rfl, rfl⟩

/-- The session with a commit pending. -/
def committing : State := { inSession with commit := ⟨.pending, 0xFFFF⟩ }

theorem newCommand_committing : NewCommand header owner committing := ⟨⟨⟨rfl, rfl⟩, rfl, by decide⟩, rfl, rfl, rfl⟩

theorem noTag {s : State} (free : ∀ i, s.entryState i = .free) (q : Request) : ¬ TagHeld q s := by
  rintro ⟨i, x, h, _⟩; simp [free, EntryState.txn?] at h

theorem admitted {s : State} (running : s.heldInReset = false) (linkUp : (s.link .station).isUp = true)
    (own : s.control.ownAddress = 1) (free : ∀ i, s.entryState i = .free) : Admitted request 0 s :=
  ⟨⟨running, linkUp⟩, by rw [own]; decide, noTag free _, free 0, fun j hj => absurd hj (Fin.not_lt_zero j)⟩

theorem noneDue {s : State} (free : ∀ i, s.entryState i = .free) (timer : s.control.liveness = .disarmed)
    (sender : s.notice.state = .idle) : ¬ ∃ c, Due s c := by
  rintro ⟨c, h⟩
  cases c <;> simp [Due, free, timer, sender] at h

theorem test_hyps_IdleStepTakesExpiryOrTick :
    ({ up with heldInReset := true }.pending = [] ∧ { up with heldInReset := true }.heldInReset = true)
    ∧ (inSession.heldInReset = false ∧ ∃ c, Due { inSession with now := 5000000 } c)
    ∧ (¬ (∃ c, Due { up with epoch := ⟨0, 9998, .off, none⟩ } c)
        ∧ 9998 + 1 < { up with epoch := ⟨0, 9998, .off, none⟩ }.epochLength)
    ∧ (¬ (∃ c, Due { up with epoch := ⟨0, 9999, .off, none⟩ } c)
        ∧ { up with epoch := ⟨0, 9999, .off, none⟩ }.epochLength ≤ 9999 + 1) :=
  ⟨⟨rfl, rfl⟩, ⟨rfl, .livenessExpiry, 5000000, .inl rfl, Nat.le_refl _⟩,
    ⟨noneDue up_free rfl rfl, by decide +kernel⟩, ⟨noneDue up_free rfl rfl, by decide +kernel⟩⟩

theorem test_hyps_EveryCommandCompletes :
    up.heldInReset = false ∧ (∀ x hold, up.entryState 31 ≠ .held x hold) ∧ (∀ x d, up.entryState 31 ≠ .inFlight x d)
    ∧ up.control.liveness = .disarmed ∧ up.notice.state = .idle :=
  ⟨rfl, by simp [up_free], by simp [up_free], rfl, rfl⟩

theorem test_hyps_PowerOnResetLeaves :
    (1 ≤ (1#6).toNat ∧ (1#6).toNat ≤ 62) ∧ (1 ≤ (62#6).toNat ∧ (62#6).toNat ≤ 62)
    ∧ (0#6).toNat = 0 ∧ (63#6).toNat = 63 := by decide

/-- The reply of RESET_PART under transmission, with the reset awaited. -/
def resetting : State :=
  { inSession with
    session := { inSession.session with resetAwaited := true }
    sPort := { inSession.sPort with replies := [⟨5, 7, 0x05, 1, .done, []⟩], sending := some (.reply 0) } }

theorem test_hyps_ManagementResetLeaves :
    (resetting.heldInReset = false ∧ resetting.session.resetAwaited = true
      ∧ resetting.sPort.sending = some (.reply 0)
      ∧ resetting.sPort.replies = ⟨header.source, header.tag, 0x05, header.sequence, .done, []⟩ :: [])
    ∧ FrameReaches .station resetting := ⟨⟨rfl, rfl, rfl, rfl⟩, rfl, rfl⟩

theorem test_hyps_HeldInReset :
    { up with heldInReset := true }.heldInReset = true ∧ Instr.epochBoundary ≠ .rstNAsserted
    ∧ ∀ straps start, Instr.epochBoundary ≠ .powerOnReset straps start := ⟨rfl, by decide, by simp⟩

theorem test_hyps_LinkReports (p : PortName) :
    State.reset.heldInReset = false ∧ State.reset.link p = .down
    ∧ ((up.setLink p (.syncing 14)).link p = .syncing 14 ∧ 14 + 1 < 16)
    ∧ ((up.setLink p (.syncing 15)).link p = .syncing 15 ∧ 16 ≤ 15 + 1) ∧ up.link p = .up none := by
  cases p <;> decide +kernel

theorem test_hyps_SymbolsOfAFrame (p : PortName) :
    up.heldInReset = false ∧ up.link p = .up none ∧ LineSymbol.invalid ≠ .startDelimiter
    ∧ ((up.setLink p (.up (some ⟨stamp, List.replicate 78 0⟩))).link p = .up (some ⟨stamp, List.replicate 78 0⟩)
        ∧ (List.replicate 78 (0 : Byte)).length < 79)
    ∧ ((up.setLink p (.up (some ⟨stamp, List.replicate 79 0⟩))).link p = .up (some ⟨stamp, List.replicate 79 0⟩)
        ∧ 79 ≤ (List.replicate 79 (0 : Byte)).length) := by
  cases p <;> decide +kernel

theorem test_hyps_EndDelimiterRunsTheFrame :
    (request.wellFormed = true ∧ response.wellFormed = true ∧ header.wellFormed [0, 1] = true)
    ∧ validAddress up.control.ownAddress = true
    ∧ (∀ bytes, (up.setLink .station (.up (some ⟨stamp, bytes⟩))).link .station = .up (some ⟨stamp, bytes⟩))
    ∧ (∀ bytes, (up.setLink .node (.up (some ⟨stamp, bytes⟩))).link .node = .up (some ⟨stamp, bytes⟩))
    ∧ checkFrame .node up.control.ownAddress [] = .error .length :=
  ⟨by decide +kernel, by decide +kernel, fun _ => rfl, fun _ => rfl, rfl⟩

theorem test_hyps_RejectedFrameIsCounted :
    up.heldInReset = false ∧ (up.link .station).isUp = true ∧ (State.reset.link .node).isUp = false := by decide +kernel

/-- A READ body passes the length check, and each later check can fail or hold. -/
theorem test_hyps_FirstFailedCheckDecides :
    ([] : List Byte).length < 7 ∧ ¬ ((5 : Byte).toNat = ([1, 0, 8, 2] : List Byte).length)
    ∧ ((4 : Byte).toNat = ([1, 0, 8, 2] : List Byte).length ∧ BodyAllowed 0x01 [1, 0, 8, 2])
    ∧ [0x83, 0x33] = bytesOf16 (crc16 ([0x01, 10, 5, 3, 4] ++ [1, 0, 8, 2]))
    ∧ [0x83, 0x34] ≠ bytesOf16 (crc16 ([0x01, 10, 5, 3, 4] ++ [1, 0, 8, 2]))
    ∧ validAddress 62 = true ∧ validAddress 63 = false ∧ validAddress 0 = false :=
  ⟨by decide, by decide, ⟨by decide, .inl ⟨rfl, 1, 0, 8, 2, [], rfl, .inl ⟨rfl, rfl, by decide, by decide⟩⟩⟩,
    by decide +kernel, by decide +kernel, by decide, by decide, by decide⟩

/-- Every entry QUEUED, and four refusals waiting. -/
def full : State :=
  { up with
    table := Vector.replicate 32 ⟨1, .queued txn⟩
    sPort := { up.sPort with refusals := List.replicate 4 ⟨5, 9, .badTarget⟩ } }

theorem full_queued (i : EntryIndex) : full.entryState i = .queued txn := by simp [full, State.entryState]

theorem test_hyps_RefusedAtAdmission :
    (FrameReaches .station up ∧ RefusedFor { request with node := 1 } up .badTarget ∧ up.sPort.refusals.length < 4)
    ∧ (FrameReaches .station full ∧ RefusedFor request full .tagInUse)
    ∧ (RefusedFor { request with tag := 4 } full .tableFull ∧ 4 ≤ full.sPort.refusals.length) :=
  ⟨⟨⟨rfl, rfl⟩, rfl, by decide⟩,
    ⟨⟨rfl, rfl⟩, by decide +kernel, 0, txn, by rw [full_queued]; rfl, rfl, rfl⟩,
    ⟨⟨by decide +kernel, by rintro ⟨i, x, h, _, g⟩; simp [full_queued, EntryState.txn?] at h; subst h; simp [txn, request] at g,
      fun i => by simp [full_queued]⟩, by decide⟩⟩

theorem test_hyps_RequestDecidedPass :
    Admitted request 0 (ruled .pass) ∧ ((ruled .pass).verdict request 0).action = .pass :=
  ⟨admitted rfl rfl rfl up_free, by decide +kernel⟩

theorem test_hyps_RequestDecidedRefuse :
    Admitted request 0 (ruled .refuse) ∧ ((ruled .refuse).verdict request 0).action = .refuse :=
  ⟨admitted rfl rfl rfl up_free, by decide +kernel⟩

/-- A HOLD rule, with a number of references in the hold queue. -/
def crowded (n : Nat) : State := { ruled (.hold 1 .refuse) with holdQueue := List.replicate n ⟨31, 0⟩ }

theorem test_hyps_RequestDecidedHold :
    (Admitted request 0 (crowded 15) ∧ ((crowded 15).verdict request 0).action = .hold 1 .refuse
      ∧ (crowded 15).holdQueue.length < 16)
    ∧ (Admitted request 0 (crowded 16) ∧ ((crowded 16).verdict request 0).action = .hold 1 .refuse
      ∧ 16 ≤ (crowded 16).holdQueue.length) :=
  ⟨⟨admitted rfl rfl rfl up_free, by decide +kernel, by decide +kernel⟩,
    ⟨admitted rfl rfl rfl up_free, by decide +kernel, by decide +kernel⟩⟩

/-- A METER rule, with the settings of meter 15. -/
def metered (x : MeterSetting) : State :=
  { ruled (.meter 15) with active := { (ruled (.meter 15)).active with
      params := { (ruled (.meter 15)).active.params with meters := Vector.replicate 16 x } } }

theorem test_hyps_RequestDecidedMeter :
    (Admitted request 0 (metered ⟨1, .refuse⟩) ∧ ((metered ⟨1, .refuse⟩).verdict request 0).action = .meter 15
      ∧ (metered ⟨1, .refuse⟩).meters[15].consumed.toNat < (1#16).toNat)
    ∧ (Admitted request 0 (metered ⟨0, .refuse⟩) ∧ ((metered ⟨0, .refuse⟩).verdict request 0).action = .meter 15
      ∧ (0#16).toNat ≤ (metered ⟨0, .refuse⟩).meters[15].consumed.toNat)
    ∧ (Admitted request 0 (metered ⟨0, .passFlagged⟩)
      ∧ ((metered ⟨0, .passFlagged⟩).verdict request 0).action = .meter 15) :=
  ⟨⟨admitted rfl rfl rfl up_free, by decide +kernel, by decide +kernel⟩,
    ⟨admitted rfl rfl rfl up_free, by decide +kernel, by decide +kernel⟩,
    ⟨admitted rfl rfl rfl up_free, by decide +kernel⟩⟩

/-- A fallback table with one rule, in its last slot. -/
def lastFallback : State :=
  { inFallback with fallback := { inFallback.fallback with
      slots := inFallback.fallback.slots.set 7 (some ⟨anything, .refuse, .none⟩) } }

/-- An active bank with one rule, in its last slot. -/
def lastBank : State :=
  { up with active := { up.active with slots := up.active.slots.set 127 (some (ruleFor .refuse)) } }

theorem test_hyps_FirstMatchDecides :
    (lastBank.control.mode = .governed ∧ lastBank.active.slots[127] = some (ruleFor .refuse)
      ∧ (ruleFor .refuse).matchesRequest request 0 = true
      ∧ ∀ k : Fin 128, k < 127 → lastBank.active.slots[k] = none)
    ∧ (∀ k : Fin 128, up.active.slots[k] = none)
    ∧ (lastFallback.control.mode = .fallback ∧ lastFallback.fallback.slots[7] = some ⟨anything, .refuse, .none⟩
      ∧ ∀ k : Fin 8, k < 7 → lastFallback.fallback.slots[k] = none)
    ∧ (∀ k : Fin 8, inFallback.fallback.slots[k] = none) := by decide +kernel

/-- Entry 0 in some state, alone: no two entries share station and tag. -/
theorem tagLaw_entryZero (st : EntryState) : TagLaw (entryZero st up) := by
  intro i j x y hi hj _ _
  simp only [entryZero, State.setEntryState_eq, State.setEntry_entryState, up_free] at hi hj
  split at hi <;> split at hj <;> simp_all [EntryState.txn?]

theorem test_hyps_ResponseAnswersEntry :
    FrameReaches .node (entryZero (.inFlight txn 20000) up) ∧ TagLaw (entryZero (.inFlight txn 20000) up)
    ∧ (entryZero (.inFlight txn 20000) up).entryState 0 = .inFlight txn 20000
    ∧ txn.request.station = response.station ∧ txn.request.tag = response.tag ∧ txn.request.node = response.node :=
  ⟨⟨rfl, rfl⟩, tagLaw_entryZero _, rfl, rfl, rfl, rfl⟩

theorem test_hyps_StrayResponse :
    FrameReaches .node up ∧ ∀ i x d, up.entryState i = .inFlight x d →
      ¬ (x.request.station = response.station ∧ x.request.tag = response.tag ∧ x.request.node = response.node) :=
  ⟨⟨rfl, rfl⟩, fun i x d h => by simp [up_free] at h⟩

theorem test_hyps_ResponseDeadlineExpires :
    (entryZero (.inFlight txn 20000) up).heldInReset = false
    ∧ (entryZero (.inFlight txn 20000) up).entryState 0 = .inFlight txn 20000 := ⟨rfl, rfl⟩

/-- Entry 0 QUEUED, under transmission at the N-port. -/
def sendingDown : State := { entryZero (.queued txn) up with nPort := ⟨.up none, [0], true⟩ }

theorem test_hyps_NodeTransmissionCompletes :
    sendingDown.heldInReset = false ∧ sendingDown.nPort.busy = true ∧ sendingDown.nPort.queue = 0 :: []
    ∧ sendingDown.entryState 0 = .queued txn := ⟨rfl, rfl, rfl, rfl⟩

/-- The S-port sending from queues that all hold something. -/
def sendingUp (x : Sending) (length : Nat) (st : EntryState) : State :=
  { entryZero st up with sPort := ⟨.up none, [⟨5, 7, 0x48, 1, .done, List.replicate length 0⟩],
      some ⟨5, 1, 0, 0, 0, .governed, .idle⟩, [0], [⟨5, 3, .badTarget⟩], some x⟩ }

theorem test_hyps_StationTransmissionCompletes :
    (sendingUp (.reply 0) 67 .free).heldInReset = false
    ∧ ((sendingUp (.reply 0) 67 .free).sPort.sending = some (.reply 0)
      ∧ (sendingUp (.reply 0) 67 .free).sPort.replies = [⟨5, 7, 0x48, 1, .done, List.replicate 67 0⟩]
      ∧ (List.replicate 67 (0 : Byte)).length ≤ 67 * (0 + 1) ∧ ¬ (0x48 : Byte) = 0x05)
    ∧ ((sendingUp (.reply 0) 68 .free).sPort.replies = [⟨5, 7, 0x48, 1, .done, List.replicate 68 0⟩]
      ∧ ¬ (List.replicate 68 (0 : Byte)).length ≤ 67 * (0 + 1))
    ∧ ((sendingUp .notice 0 .free).sPort.sending = some .notice
      ∧ (sendingUp .notice 0 .free).sPort.slot = some ⟨5, 1, 0, 0, 0, .governed, .idle⟩)
    ∧ ((sendingUp .answer 0 (.returning txn (.refusal .rule))).sPort.returns = 0 :: []
      ∧ (sendingUp .answer 0 (.returning txn (.refusal .rule))).entryState 0 = .returning txn (.refusal .rule)
      ∧ (sendingUp .answer 0 (.returning txn (.node .ok 0 [1]))).entryState 0 = .returning txn (.node .ok 0 [1]))
    ∧ ((sendingUp .refusal 0 .free).sPort.sending = some .refusal
      ∧ (sendingUp .refusal 0 .free).sPort.refusals = ⟨5, 3, .badTarget⟩ :: []) := by decide +kernel

theorem test_hyps_StationPortLeavesUp :
    (FrameReaches .station (sendingUp .answer 0 (.returning txn (.refusal .rule)))
      ∧ (sendingUp .answer 0 (.returning txn (.refusal .rule))).session.resetAwaited = false
      ∧ (sendingUp .answer 0 (.returning txn (.refusal .rule))).session.current = none)
    ∧ (FrameReaches .station inSession ∧ inSession.session.resetAwaited = false
      ∧ inSession.session.current = some owner) := ⟨⟨⟨rfl, rfl⟩, rfl, rfl⟩, ⟨rfl, rfl⟩, rfl, rfl⟩

theorem queueLaw_sendingDown : QueueLaw sendingDown := by
  have state : ∀ i, sendingDown.entryState i = if i = 0 then .queued txn else .free := fun i => by
    show (entryZero (.queued txn) up).entryState i = _
    simp only [entryZero, State.setEntryState_eq, State.setEntry_entryState, up_free]
  have holds : sendingDown.holdQueue = [] := rfl
  have queue : sendingDown.nPort.queue = [0] := rfl
  have returns : sendingDown.sPort.returns = [] := rfl
  have clear : sendingDown.events.isSet .holdWaiting = false := rfl
  have mode : sendingDown.control.mode = .governed := rfl
  constructor <;> simp [state, holds, queue, returns, clear, mode] <;> intros <;> split at * <;> simp_all

theorem test_hyps_NodePortLeavesUp : FrameReaches .node sendingDown ∧ QueueLaw sendingDown :=
  ⟨⟨rfl, rfl⟩, queueLaw_sendingDown⟩

theorem test_hyps_HeldRequestIsReleasedOrDenied (d : PassRefuse) :
    NewCommand header owner (holding d inSession)
    ∧ (holding d inSession).entryState 0 = .held txn ⟨60000, d, 60000000⟩ ∧ (holding d inSession).generation 0 = 0 :=
  ⟨newCommand_held d, rfl, rfl⟩

theorem test_hyps_StaleReferenceIsNotHeld :
    NewCommand header owner (holding .pass inSession)
    ∧ ((0 : EntryIndex).val = (0 : Byte).toNat ∧ ¬ ((holding .pass inSession).generation 0 = 1))
    ∧ ((31 : EntryIndex).val = (31 : Byte).toNat ∧ (holding .pass inSession).entryState 31 = .free)
    ∧ 32 ≤ (32 : Byte).toNat := ⟨newCommand_held .pass, by decide +kernel, by decide +kernel, by decide⟩

theorem test_hyps_HoldDeadlineExpires :
    (holding .pass up).heldInReset = false
    ∧ (holding .pass up).entryState 0 = .held txn ⟨60000, .pass, 60000000⟩
    ∧ (holding .refuse up).entryState 0 = .held txn ⟨60000, .refuse, 60000000⟩ := ⟨rfl, rfl, rfl⟩

theorem test_hyps_ListHoldsReportsTheQueue :
    NewCommand header owner (holding .pass inSession)
    ∧ 15 < (16 : Byte).toNat ∧ (15 : Byte).toNat ≤ 15 ∧ 8 < (9 : Byte).toNat ∧ (8 : Byte).toNat ≤ 8
    ∧ (holding .pass inSession).holdQueue = [⟨0, 0⟩]
    ∧ (holding .pass inSession).entryState 0 = .held txn ⟨60000, .pass, 60000000⟩ :=
  ⟨newCommand_held .pass, by decide, by decide, by decide, by decide, rfl, rfl⟩

theorem test_hyps_BoundaryAppliesPendingCommit :
    up.heldInReset = false ∧ up.commit.state = .idle ∧ committing.heldInReset = false
    ∧ committing.commit.state = .pending := ⟨rfl, rfl, rfl, rfl⟩

theorem test_hyps_SyncEdgeByMode :
    up.heldInReset = false ∧ up.epoch.sync = .off
    ∧ { up with epoch := ⟨0, 5, .capture, none⟩ }.epoch.sync = .capture
    ∧ { up with epoch := ⟨0, 5, .restart, none⟩ }.epoch.sync = .restart := ⟨rfl, rfl, rfl, rfl⟩

theorem test_hyps_SettingCommands :
    NewCommand header owner inSession ∧ 2 < (3 : Byte).toNat ∧ 2 ≤ (2 : Byte).toNat ∧ (1 : Byte).toNat < 2
    ∧ (1 : Byte) ≠ 0
    ∧ (0 : Byte).toNat * 65536 + (0x27 : Byte).toNat * 256 + (0x0F : Byte).toNat < inSession.epochLength
    ∧ inSession.epochLength ≤ (0 : Byte).toNat * 65536 + (0x27 : Byte).toNat * 256 + (0x10 : Byte).toNat
    ∧ 1 ≤ (0 : Byte).toNat * 256 + (1 : Byte).toNat ∧ (1 : Byte).toNat * 256 + (0 : Byte).toNat ≤ 256
    ∧ 256 < (1 : Byte).toNat * 256 + (1 : Byte).toNat ∧ 1 < (2 : Byte).toNat :=
  ⟨newCommand, by decide +kernel⟩

/-- A log of some fill, in a mode, with a threshold. -/
def logged (fill : Nat) (mode : LogMode) (threshold : Nat) : State :=
  { up with log := { up.log with
      records := List.replicate fill ⟨0, 0, 0, partRecord .modeChange .fallback none⟩
      mode := mode
      threshold := threshold } }

/-- What a record taken leaves: fill, next number, lost count, LOG_LOSS, LOG_THRESHOLD. -/
def afterRecord (s : State) : Nat × Nat × Nat × Bool × Bool :=
  let t := s.logRecord (partRecord .modeChange .fallback none)
  (t.log.records.length, t.log.nextSequence.toNat, t.log.lostCount.toNat, t.events.isSet .logLoss,
    t.events.isSet .logThreshold)

/-- R100 to R103: both clauses of LogTakesRecord where they meet, in both modes, and the append that reaches the threshold. -/
theorem test_hyps_LogTakesRecord :
    ((logged 255 .wrap 192).log.records.length < 256 ∧ 256 ≤ (logged 256 .stop 192).log.records.length)
    ∧ [logged 255 .wrap 192, logged 255 .stop 192, logged 256 .wrap 192, logged 256 .stop 192, logged 255 .stop 256,
        logged 191 .wrap 192].map afterRecord
      = [(256, 1, 0, false, false), (256, 1, 0, false, false), (256, 1, 1, true, false), (256, 1, 1, true, false),
        (256, 1, 0, false, true), (192, 1, 0, false, true)] := by decide +kernel

/-- R190: the bytes of a DECISION record with a meter over budget. -/
theorem test_recordBytes :
    recordBytes ⟨0x01020304, 5, 0x0A0B0C, decisionRecord { txn with decision := .meter } .refuse (some ⟨9, true⟩)
        (some .meter)⟩
      = [1, 2, 3, 4, 0, 0, 0, 5, 0x0A, 0x0B, 0x0C, 1, 0x1F, 5, 10, 3, 2, 1, 0, 0, 0, 0, 2, 0, 9, 5, 2,
         0xAA, 0xBB, 0, 0, 0, 0, 0, 0] := by decide +kernel

theorem test_hyps_ReadAndClearCommands :
    NewCommand header owner inSession ∧ (15 : Byte).toNat ≤ 15 ∧ 15 < (16 : Byte).toNat ∧ 1 ≤ (1 : Byte).toNat
    ∧ (6 : Byte).toNat ≤ 6 ∧ 6 < (7 : Byte).toNat ∧ 1 < (2 : Byte).toNat := ⟨newCommand, by decide⟩

/-- A shadow bank of one rule, whose window is as given, with epoch length 100. -/
def windowed (w : Window) : State :=
  { inSession with shadow := { inSession.shadow with
      slots := inSession.shadow.slots.set 3 (some { ruleFor .pass with window := some w })
      params := { inSession.shadow.params with epochLength := 100 } } }

theorem windowed_slots (w : Window) (n : Fin Config.bankSlots) :
    (windowed w).shadow.slots[n] = if n.val = 3 then some { ruleFor .pass with window := some w } else none := by
  simp [windowed, inSession, up, State.reset, State.powerOn, resetBank, Vector.getElem_set, eq_comm]

theorem windowed_first (w : Window) (k : Fin Config.bankSlots) (hk : k < 3) (r' : Rule) (w' : Window)
    (h : (windowed w).shadow.slots[k] = some r') (_ : r'.window = some w') :
    w'.openOffset < 100 ∧ w'.closeOffset < 100 := by
  have : k.val ≠ 3 := Nat.ne_of_lt hk
  rw [windowed_slots, if_neg this] at h
  cases h

theorem test_hyps_CommitAndAbort :
    (NewCommand header owner inFallback ∧ inFallback.control.mode = .fallback)
    ∧ (NewCommand header owner committing ∧ committing.control.mode = .governed ∧ committing.commit.state = .pending)
    ∧ (NewCommand header owner (windowed ⟨0, 99⟩) ∧ (windowed ⟨0, 99⟩).commit.state = .idle
      ∧ (windowed ⟨0, 99⟩).shadow.WindowsFit)
    ∧ (NewCommand header owner (windowed ⟨100, 0⟩) ∧ (windowed ⟨100, 0⟩).shadow.params.epochLength ≤ 100
      ∧ ∀ k : Fin Config.bankSlots, k < 3 → ∀ r' w', (windowed ⟨100, 0⟩).shadow.slots[k] = some r' →
        r'.window = some w' → w'.openOffset < 100 ∧ w'.closeOffset < 100)
    ∧ (NewCommand header owner (windowed ⟨99, 100⟩) ∧ 99 < (windowed ⟨99, 100⟩).shadow.params.epochLength
      ∧ (windowed ⟨99, 100⟩).shadow.params.epochLength ≤ 100
      ∧ ∀ k : Fin Config.bankSlots, k < 3 → ∀ r' w', (windowed ⟨99, 100⟩).shadow.slots[k] = some r' →
        r'.window = some w' → w'.openOffset < 100 ∧ w'.closeOffset < 100) := by
  refine ⟨⟨newCommand_inFallback, rfl⟩, ⟨newCommand_committing, rfl, rfl⟩,
    ⟨⟨⟨⟨rfl, rfl⟩, rfl, by decide⟩, rfl, rfl, rfl⟩, rfl, ?_⟩,
    ⟨⟨⟨⟨rfl, rfl⟩, rfl, by decide⟩, rfl, rfl, rfl⟩, by decide, windowed_first _⟩,
    ⟨⟨⟨⟨rfl, rfl⟩, rfl, by decide⟩, rfl, rfl, rfl⟩, by decide, by decide, windowed_first _⟩⟩
  intro n r w h g
  rw [windowed_slots] at h
  split at h
  · cases h; cases g; exact ⟨by decide, by decide⟩
  · cases h

theorem test_hyps_ReadOnlyCommands :
    NewCommand header owner inSession ∧ 1 < (2 : Byte).toNat ∧ (1 : Byte).toNat ≤ 1 ∧ 127 < (128 : Byte).toNat
    ∧ 7 < (8 : Byte).toNat := ⟨newCommand, by decide⟩

theorem test_hyps_EventCommands :
    NewCommand header owner inSession ∧ (31 : Byte).toNat < 32 ∧ 32 ≤ (32 : Byte).toNat := ⟨newCommand, by decide⟩

/-- A notice outstanding under number 9. -/
def notified : State := { inSession with notice := ⟨.awaitingAck 100000, 9, 10⟩ }

theorem test_hyps_AckNoticeMatchesNumber :
    NewCommand header owner notified ∧ notified.notice.state = .awaitingAck 100000 ∧ 9 = notified.notice.number
    ∧ 8 ≠ notified.notice.number ∧ (NewCommand header owner inSession ∧ inSession.notice.state = .idle) :=
  ⟨⟨⟨⟨rfl, rfl⟩, rfl, by decide⟩, rfl, rfl, rfl⟩, rfl, rfl, by decide, newCommand, rfl⟩

theorem test_hyps_NoticeMadeAndResent :
    notified.heldInReset = false ∧ notified.session.current = some owner
    ∧ notified.notice.state = .awaitingAck 100000 ∧ notified.sPort.sending ≠ some .notice
    ∧ up.session.current = none := ⟨rfl, rfl, rfl, by decide, rfl⟩

theorem test_hyps_ProbeReportsAndChangesNothing :
    CommandReaches up ∧ { header with sequence := 0 }.sequence = 0 ∧ header.sequence ≠ 0 :=
  ⟨⟨⟨rfl, rfl⟩, rfl, by decide⟩, rfl, by decide⟩

/-- The liveness timer of the session is WARNED. -/
def warned (s : State) : State := { s with control := { s.control with liveness := .warned 10000000 } }

theorem test_hyps_OpenOpensOrIsBusy :
    CommandReaches up ∧ up.session.current = none
    ∧ (CommandReaches inSession ∧ inSession.session.current = some owner ∧ header.source = owner.owner
      ∧ { header with source := 6 }.source ≠ owner.owner ∧ ∀ d, inSession.control.liveness ≠ .warned d)
    ∧ (CommandReaches (warned inSession) ∧ (warned inSession).control.liveness = .warned 10000000) :=
  ⟨⟨⟨rfl, rfl⟩, rfl, by decide⟩, rfl,
    ⟨⟨⟨rfl, rfl⟩, rfl, by decide⟩, rfl, rfl, by decide, fun d h => by simp [inSession] at h⟩,
    ⟨⟨rfl, rfl⟩, rfl, by decide⟩, rfl⟩

theorem test_hyps_CloseEndsTheSession : NewCommand header owner inSession := newCommand

/-- The session after one command. -/
def afterOne : State :=
  { inSession with session := { inSession.session with
      current := some ⟨5, 2, some ⟨1, ⟨5, 7, 0x04, 1, .done, []⟩⟩⟩ } }

theorem test_hyps_SessionAndSequenceChecks :
    (0x04 : Byte) ≠ 0x01 ∧ (0x04 : Byte) ≠ 0x02 ∧ (CommandReaches up ∧ up.session.current = none)
    ∧ (CommandReaches inSession ∧ inSession.session.current = some owner ∧ { header with source := 6 }.source ≠ owner.owner)
    ∧ (CommandReaches afterOne
      ∧ afterOne.session.current = some ⟨5, 2, some ⟨1, ⟨5, 7, 0x04, 1, .done, []⟩⟩⟩ ∧ header.sequence = 1)
    ∧ ({ header with sequence := 3 }.sequence ≠ 2 ∧ { header with sequence := 3 }.sequence ≠ 1) :=
  ⟨by decide, by decide, ⟨⟨⟨rfl, rfl⟩, rfl, by decide⟩, rfl⟩, ⟨⟨⟨rfl, rfl⟩, rfl, by decide⟩, rfl, by decide⟩,
    ⟨⟨⟨rfl, rfl⟩, rfl, by decide⟩, rfl, rfl⟩, by decide, by decide⟩

/-- Four replies waiting. -/
def overrun : State :=
  { inSession with sPort := { inSession.sPort with replies := List.replicate 4 ⟨5, 7, 0x04, 1, .done, []⟩ } }

theorem test_hyps_CommandsDiscarded :
    (FrameReaches .station resetting ∧ resetting.session.resetAwaited = true)
    ∧ (FrameReaches .station overrun ∧ overrun.session.resetAwaited = false ∧ 4 ≤ overrun.sPort.replies.length) :=
  ⟨⟨⟨rfl, rfl⟩, rfl⟩, ⟨rfl, rfl⟩, rfl, by decide⟩

theorem test_hyps_UnknownWrongAndReset :
    NewCommand header owner inSession ∧ CommandName.ofCode 0x00 = none
    ∧ (CommandName.keepalive ≠ .probe ∧ CommandName.keepalive ≠ .openSession
      ∧ ([0] : List Byte).length ≠ CommandName.keepalive.argBytes) := ⟨newCommand, by decide, by decide⟩

theorem up_queueLaw : QueueLaw up := queueLaw_of up_free rfl rfl rfl rfl rfl

theorem inSession_queueLaw : QueueLaw inSession := queueLaw_of up_free rfl rfl rfl rfl rfl

theorem test_hyps_LivenessExpires :
    inSession.heldInReset = false ∧ inSession.control.liveness = .running 5000000
    ∧ ((warned inSession).control.liveness = .warned 10000000 ∧ QueueLaw (warned inSession)
      ∧ (warned inSession).control.mode = .governed)
    ∧ (QueueLaw (warned inFallback) ∧ (warned inFallback).control.mode = .fallback) :=
  ⟨rfl, rfl, ⟨rfl, queueLaw_of up_free rfl rfl rfl rfl rfl, rfl⟩,
    queueLaw_of up_free rfl rfl rfl rfl rfl, rfl⟩

theorem test_hyps_EnterFallbackCommand :
    (NewCommand header owner inSession ∧ QueueLaw inSession ∧ inSession.control.mode = .governed)
    ∧ (NewCommand header owner inFallback ∧ QueueLaw inFallback ∧ inFallback.control.mode = .fallback) :=
  ⟨⟨newCommand, inSession_queueLaw, rfl⟩, newCommand_inFallback, queueLaw_of up_free rfl rfl rfl rfl rfl, rfl⟩

theorem test_hyps_ResumeReturnsToGoverned :
    (NewCommand header owner inFallback ∧ inFallback.control.mode = .fallback ∧ inFallback.commit.state = .idle)
    ∧ (NewCommand header owner inSession ∧ inSession.control.mode = .governed) :=
  ⟨⟨newCommand_inFallback, rfl, rfl⟩, newCommand, rfl⟩

/-- A rule with every field at the edge of its range. -/
def edgeRule : Rule :=
  ⟨⟨62, 62, ⟨false, false, true⟩, 0xFFFF, 0xFFFF, some [1, 2, 3, 62]⟩, some ⟨999999, 0⟩, .hold 60000 .refuse, .none⟩

theorem edgeRule_legal : edgeRule.Legal := by
  refine ⟨⟨?_, ?_, ?_, ?_, ?_, ?_⟩, ?_, ?_⟩ <;> simp [edgeRule, ruleAddress]

/-- The record of a rule for everything that holds, with one byte changed. -/
def changed (place : Nat) (b : Byte) : List Byte := (ruleBytes (ruleFor (.hold 60000 .pass))).set place b

/-- The places before a place of the check order. -/
theorem places {k n : Nat} (h : k < n) (hn : n ≤ 12) (hk : 1 ≤ k) :
    k = 1 ∨ k = 2 ∨ k = 3 ∨ k = 4 ∨ k = 5 ∨ k = 6 ∨ k = 7 ∨ k = 8 ∨ k = 9 ∨ k = 10 ∨ k = 11 := by omega

/-- A record that passes every check of WRITE_RULE, with bytes that are not read. -/
theorem edgeRecord_passes (k : Nat) :
    ¬ RuleFieldFails 127 ((ruleBytes { edgeRule with action := .pass }).set 20 9) k := by
  by_cases h : k = 0 ∨ 12 < k
  · rcases h with rfl | h
    · simp [RuleFieldFails, SelectorFieldFails]
    · match k, h with
      | k + 13, _ => simp [RuleFieldFails, SelectorFieldFails]
  · rcases Nat.lt_or_ge k 12 with g | g
    · rcases places g (by decide) (by omega) with h | h | h | h | h | h | h | h | h | h | h <;> subst h <;>
        (simp only [RuleFieldFails, SelectorFieldFails, ruleAddress]; decide +kernel)
    · obtain rfl : k = 12 := by omega
      simp only [RuleFieldFails]; decide +kernel

/-- A record that passes every check of WRITE_FALLBACK_RULE. -/
theorem edgeRecord_passesFallback (k : Nat) :
    ¬ FallbackFieldFails 7 ((ruleBytes { edgeRule with window := none, action := .pass }).set 20 9) k := by
  by_cases h : k = 0 ∨ 12 < k
  · rcases h with rfl | h
    · simp [FallbackFieldFails, SelectorFieldFails]
    · match k, h with
      | k + 13, _ => simp [FallbackFieldFails, SelectorFieldFails]
  · rcases Nat.lt_or_ge k 12 with g | g
    · rcases places g (by decide) (by omega) with h | h | h | h | h | h | h | h | h | h | h <;> subst h <;>
        (simp only [FallbackFieldFails, SelectorFieldFails, ruleAddress]; decide +kernel)
    · obtain rfl : k = 12 := by omega
      simp only [FallbackFieldFails]; decide +kernel

theorem test_hyps_ShadowBankCommands :
    (NewCommand header owner committing ∧ committing.commit.state = .pending)
    ∧ (NewCommand header owner inSession ∧ inSession.commit.state = .idle ∧ edgeRule.Legal)
    ∧ (∀ k, ¬ RuleFieldFails 127 ((ruleBytes { edgeRule with action := .pass }).set 20 9) k)
    ∧ (FirstFailingRuleField 128 (changed 0 0) 1 ∧ (changed 0 0).length = 25)
    ∧ (FirstFailingRuleField 127 (changed 1 63) 2 ∧ FirstFailingRuleField 127 (changed 24 3) 12)
    ∧ 127 < (128 : Byte).toNat
    ∧ (FirstFailingParameter (3 :: List.replicate 53 0) 1 0 ∧ (3 :: List.replicate 53 (0 : Byte)).length = 54) := by
  refine ⟨⟨newCommand_committing, rfl⟩, ⟨newCommand, rfl, edgeRule_legal⟩, edgeRecord_passes,
    ⟨⟨?_, ?_, ?_, ?_⟩, by decide⟩,
    ⟨⟨?_, ?_, ?_, ?_⟩, ⟨?_, ?_, ?_, ?_⟩⟩, by decide, ⟨?_, ?_⟩, by decide⟩
  case refine_4 | refine_8 | refine_12 =>
    intro k hk h1
    rcases places hk (by decide) h1 with h | h | h | h | h | h | h | h | h | h | h <;> subst h <;>
      first
        | (exact absurd hk (by decide))
        | (simp only [RuleFieldFails, SelectorFieldFails, ruleAddress]; decide +kernel)
  case refine_14 =>
    intro k m h
    match k, m with
    | 0, _ => simp [ParameterFails]
    | 1, 0 => omega
    | k + 1, m => omega
  all_goals first
    | decide
    | (simp only [RuleFieldFails, SelectorFieldFails, ParameterFails]; decide +kernel)

theorem test_hyps_FallbackTableCommands :
    (NewCommand header owner inFallback ∧ inFallback.control.mode = .fallback)
    ∧ (NewCommand header owner inSession ∧ inSession.control.mode = .governed ∧ edgeRule.selector.Legal)
    ∧ (∀ k, ¬ FallbackFieldFails 7 ((ruleBytes { edgeRule with window := none, action := .pass }).set 20 9) k)
    ∧ (FirstFailingFallbackField 8 (changed 0 0) 1 ∧ FirstFailingFallbackField 7 (changed 0 1) 7)
    ∧ 7 < (8 : Byte).toNat ∧ (1 : Byte) ≠ 0 ∧ 2 < (3 : Byte).toNat ∧ (2 : Byte).toNat ≤ 2 := by
  refine ⟨⟨newCommand_inFallback, rfl⟩, ⟨newCommand, rfl, edgeRule_legal.selector⟩,
    edgeRecord_passesFallback, ⟨⟨?_, ?_, ?_, ?_⟩, ⟨?_, ?_, ?_, ?_⟩⟩,
    by decide⟩
  case refine_4 | refine_8 =>
    intro k hk h1
    rcases places hk (by decide) h1 with h | h | h | h | h | h | h | h | h | h | h <;> subst h <;>
      first
        | (exact absurd hk (by decide))
        | (simp only [FallbackFieldFails, SelectorFieldFails, ruleAddress]; decide +kernel)
  all_goals first
    | decide
    | (simp only [FallbackFieldFails]; decide +kernel)

theorem test_hyps_RuleRecordRoundTrip : edgeRule.Legal ∧ edgeRule.selector.Legal :=
  ⟨edgeRule_legal, edgeRule_legal.selector⟩

/-- A boundary waits in the queue, and both ports are UP. -/
def waiting : State := { up with pending := [.epochBoundary] }

theorem test_hyps_QueueLawIsKept : QueueLaw waiting ∧ ∃ t, step waiting = .next t :=
  ⟨queueLaw_of up_free rfl rfl rfl rfl rfl, _, rfl⟩

theorem test_hyps_TagLawIsKept :
    TagLaw (entryZero (.queued txn) waiting) ∧ ∃ t, step (entryZero (.queued txn) waiting) = .next t :=
  ⟨tagLaw_entryZero _, _, rfl⟩

theorem test_hyps_MeterLawIsKept : MeterLaw waiting ∧ ∃ t, step waiting = .next t :=
  ⟨fun m => by simp [waiting, up, State.reset, State.powerOn, resetMeters], _, rfl⟩

theorem test_hyps_WindowLawIsKept : WindowLaw waiting ∧ ∃ t, step waiting = .next t :=
  ⟨⟨fun n r w h => by simp [waiting, up, State.reset, State.powerOn, resetBank] at h, fun h => by cases h⟩, _, rfl⟩

theorem test_hyps_RuleLawIsKept : RuleLaw waiting ∧ ∃ t, step waiting = .next t :=
  ⟨⟨⟨fun n r h => by simp [waiting, up, State.reset, State.powerOn, resetBank] at h, by decide, by decide⟩,
    ⟨fun n r h => by simp [waiting, up, State.reset, State.powerOn, resetBank] at h, by decide, by decide⟩,
    ⟨fun n r h => by simp [waiting, up, State.reset, State.powerOn, powerOnFallbackTable] at h, by decide⟩,
    by decide +kernel⟩, _, rfl⟩

theorem test_hyps_SessionLawIsKept :
    SessionLaw { inSession with pending := [.epochBoundary] }
    ∧ ∃ t, step { inSession with pending := [.epochBoundary] } = .next t :=
  ⟨⟨by simp [inSession], by simp [inSession], by simp [inSession, up], fun _ _ => by decide +kernel⟩, _, rfl⟩

theorem test_hyps_RangeLawIsKept : RangeLaw waiting ∧ ∃ t, step waiting = .next t :=
  ⟨by constructor <;> decide +kernel, _, rfl⟩

/-- A management reset is awaited while the N-port's transmission ends. -/
def awaiting : State :=
  { entryZero (.queued txn) up with
    nPort := ⟨.up none, [0], true⟩, session := ⟨some owner, 1, true⟩, pending := [.nodeTransmitComplete] }

theorem test_hyps_EntriesMoveForward :
    ((∃ t, step waiting = .next t) ∧ ¬ PerformsReset waiting
      ∧ ∀ straps start rest, waiting.pending ≠ .powerOnReset straps start :: rest)
    ∧ ((∃ t, step awaiting = .next t) ∧ awaiting.session.resetAwaited = true ∧ ¬ PerformsReset awaiting
      ∧ ∀ straps start rest, awaiting.pending ≠ .powerOnReset straps start :: rest) :=
  ⟨⟨⟨_, rfl⟩, fun h => Bool.noConfusion h.1, fun _ _ _ h => by simp [waiting] at h⟩,
    ⟨_, rfl⟩, rfl, by rintro ⟨_, ⟨_, h, _⟩ | ⟨_, _, _, _, h, _⟩⟩ <;> simp [awaiting] at h,
    fun _ _ _ h => by simp [awaiting] at h⟩

/-- A refusal is being sent while a NOTICE waits, and one command waits. -/
def sendingRefusal (c : Instr) : State :=
  { up with
    sPort := ⟨.up none, [], some ⟨5, 1, 0, 0, 0, .governed, .idle⟩, [], [⟨5, 3, .badTarget⟩], some .refusal⟩
    pending := [c] }

/-- The owner's NOTICE is being sent, and the owner's OPEN waits. -/
def sendingNotice : State :=
  { inSession with
    sPort := ⟨.up none, [], some ⟨5, 1, 0, 0, 0, .governed, .idle⟩, [], [], some .notice⟩
    pending := [.openSession { header with sequence := 0 } []] }

theorem test_hyps_TransmittersNeverWait :
    (∃ t, step (sendingRefusal .sPortTransmitComplete) = .next t ∧ t.heldInReset = false
      ∧ t.sPort.sending = some .notice ∧ SendingEnds (sendingRefusal .sPortTransmitComplete) t)
    ∧ (∃ t, step sendingNotice = .next t ∧ t.heldInReset = false
      ∧ t.sPort.sending = some (.reply 0) ∧ SendingEnds sendingNotice t)
    ∧ (∃ t, step (sendingRefusal .epochBoundary) = .next t ∧ t.heldInReset = false
      ∧ t.sPort.sending = some .refusal ∧ ¬ SendingEnds (sendingRefusal .epochBoundary) t) :=
  ⟨⟨_, rfl, rfl, rfl, .inl ⟨_, rfl⟩⟩, ⟨_, rfl, rfl, rfl, .inr ⟨rfl, rfl, .inr (by decide +kernel)⟩⟩,
    ⟨_, rfl, rfl, rfl, by rintro (⟨_, h⟩ | ⟨h, _⟩) <;> simp [sendingRefusal] at h⟩⟩

end Sys2Proof.Tests
end

section
/-! PROOFS. The life of a transaction at the N-port: the request sent downstream, a stray response, the loss of the link. -/
namespace Sys2Proof.Machine

/-! ### A request sent downstream -/

/-- The N-port's line carries the request of the head of its queue while that is under transmission (R10). -/
theorem State.nLine_sending {s : State} {i : EntryIndex} {rest : List EntryIndex} {x : Txn}
    (running : s.heldInReset = false) (busy : s.nPort.busy = true) (queue : s.nPort.queue = i :: rest)
    (queued : s.entryState i = .queued x) : s.nLine = .frame (requestFrame x.request) := by
  simp [State.nLine, State.lineOutput, State.nodeFrame, running, busy, queue, queued, EntryState.txn?]

/-- A completed transmission takes the head off the node transmit queue and launches its entry (R10, R177). -/
theorem State.completeNode_sending {s : State} {i : EntryIndex} {rest : List EntryIndex} {x : Txn}
    (busy : s.nPort.busy = true) (queue : s.nPort.queue = i :: rest) (queued : s.entryState i = .queued x) :
    s.completeNode = State.setEntry i ⟨s.generation i, .inFlight x (s.now + millis x.responseTimeout)⟩
      { s with nPort := { s.nPort with queue := rest, busy := false } } := by
  have kept : State.entryState { s with nPort := { s.nPort with queue := rest, busy := false } } i = .queued x := queued
  simp only [State.completeNode, busy, queue, State.launch, kept]; rfl

theorem frame_nPort_queue_busy (queue : List EntryIndex) (busy : Bool) (s : State) :
    SameBut [.nodeQueue, .nodeTransmission] s { s with nPort := { s.nPort with queue := queue, busy := busy } } := by
  intro p hp; cases p <;> simp_all [Part.Kept, State.count]
  case link p => cases p <;> rfl

/-- Settles O21: the completion is one entry launched and one reference taken off the queue. -/
theorem nodeTransmissionCompletes : Obligations.NodeTransmissionCompletes := by
  intro i rest x s running busy queue queued
  refine ⟨State.nLine_sending running busy queue queued, _, taken_running running _, ?_⟩
  rw [State.completeNode_sending busy queue queued]
  refine ⟨?_, ?_, ?_, ?_⟩
  · simp [millis, Nat.mul_comm]
  · simp
  · simp [NodePort.started]
  · exact (((frame_nPort_queue_busy rest false s).trans (frame_setEntry i _ _)).trans (frame_settle _)).mono (by simp)

/-! ### A stray response -/

/-- A response that matches no IN_FLIGHT entry finds none (R11). -/
theorem State.responseMatch_none {s : State} {r : Response}
    (h : ∀ i x d, s.entryState i = .inFlight x d →
      ¬ (x.request.station = r.station ∧ x.request.tag = r.tag ∧ x.request.node = r.node)) :
    s.responseMatch r = none := by
  rw [State.responseMatch, List.findSome?_eq_none_iff]
  intro i _
  cases e : s.entryState i with
  | inFlight x d => simp [h i x d e]
  | free | held | queued | returning => rfl

/-- The records a stray response leaves: one while stray logging is on (R13, R104). -/
def strayRecords (r : Response) (s : State) : List RecordBody := if s.log.strayLogging then [strayRecord s r] else []

theorem State.tableInForce_eq (s : State) :
    s.tableInForce = if s.control.mode = .governed then .active s.commit.generation else .fallback := by
  unfold State.tableInForce
  cases s.control.mode <;> rfl

theorem State.takeStray_strays (r : Response) (s : State) : (s.takeStray r).count .strays = s.count .strays + 1 := by
  simp only [State.takeStray]
  split <;> simp

theorem State.takeStray_isSet (r : Response) (s : State) : (s.takeStray r).events.isSet .strayResponse = true := by
  simp only [State.takeStray]
  split <;> simp

theorem State.takeStray_log (r : Response) (s : State) :
    (s.takeStray r).log = logAfterAll s.epoch s.log (strayRecords r s) := by
  cases h : s.log.strayLogging <;> simp [State.takeStray, strayRecords, strayRecord, h]

/-- A stray response touches no entry, and nothing but what counting and recording it does (R13). -/
theorem frame_takeStray (r : Response) (s : State) :
    SameBut ([.counter .strays] ++ statusParts .strayResponse ++ loggingParts (strayRecords r s)) s (s.takeStray r) := by
  have counted := (frame_bumpBy 1 .strays s).trans (frame_setStatus .strayResponse _)
  cases h : s.log.strayLogging with
  | false => simpa [State.takeStray, strayRecords, h] using counted
  | true => simpa [State.takeStray, strayRecords, h] using counted.trans (frame_logRecord _ _)

/-- A frame whose effect leaves its port's link and its count alone has been taken (R68, R170). -/
theorem FrameTaken.of_effect {p : PortName} {s t : State} {changed : List Part} (frame : SameBut changed (s.accept p) t)
    (noLink : Part.link p ∉ changed) (noCount : Part.counter (.framesAccepted p) ∉ changed) : FrameTaken p s t :=
  ⟨(frame _ noLink).trans FrameTaken.accept.1, (frame _ noCount).trans FrameTaken.accept.2⟩

theorem mem_loggingParts {p : Part} {bs : List RecordBody} : p ∈ loggingParts bs ↔ bs ≠ [] ∧ p ∈ recordParts := by
  cases bs <;> simp

/-- Settles O19: no entry matches, so the response is taken as a stray. -/
theorem strayResponse : Obligations.StrayResponse := by
  intro r s reaches unmatched record records
  have stray : exec (.responseArrival r) s = .next ((s.accept .node).takeStray r).settle := by
    have noMatch : (s.accept .node).responseMatch r = none := State.responseMatch_none (by simpa using unmatched)
    show execResponseArrival r s = _
    simp [execResponseArrival, acceptedAt_reaches reaches, noMatch]
  have same : strayRecords r (s.accept .node) = records := by
    simp [strayRecords, strayRecord, records, record, State.tableInForce_eq, snippetOf]
  have effect := (frame_takeStray r (s.accept .node)).trans (frame_settle _)
  rw [same, List.append_nil] at effect
  refine ⟨_, stray, FrameTaken.of_effect effect ?_ ?_, ?_, ?_, ?_, ?_⟩
  · simp [statusParts, noticeParts, mem_loggingParts, recordParts]
  · simp [statusParts, noticeParts, mem_loggingParts, recordParts]
  · simp [State.takeStray_strays]
  · simp [State.takeStray_isSet]
  · simp [State.takeStray_log, same]
  · exact ((frame_accept .node s).trans effect).mono (by simp)

/-! ### The N-port leaves UP -/

/-- An entry on the node side with its request: QUEUED or IN_FLIGHT (R16). -/
def State.OnNodeSide (s : State) (i : EntryIndex) (x : Txn) : Prop :=
  s.entryState i = .queued x ∨ ∃ d, s.entryState i = .inFlight x d

/-- What answering a list of entries LINK_DOWN changes (R9, R16). -/
def linkDownParts (l : List EntryIndex) (records : List RecordBody) : List Part :=
  [.returns, .counter (.refusals .linkDown), .counter .answersDiscarded] ++ loggingParts records ++ l.map .entry

/-- The entries of a list have been answered LINK_DOWN in its order: each is given its answer, counted and recorded
(R9, R16, R20). -/
structure AnsweredLinkDown (l : List EntryIndex) (s t : State) : Prop where
  entry : ∀ i ∈ l, ∀ x, s.OnNodeSide i x →
    t.table[i] = ⟨s.generation i, if s.sPort.link.isUp then .returning x (.refusal .linkDown) else .free⟩
  returns : t.sPort.returns = if s.sPort.link.isUp then s.sPort.returns ++ l else s.sPort.returns
  counted : t.count (.refusals .linkDown) = s.count (.refusals .linkDown) + BitVec.ofNat 32 l.length
  discarded : t.count .answersDiscarded
    = if s.sPort.link.isUp then s.count .answersDiscarded else s.count .answersDiscarded + BitVec.ofNat 32 l.length
  log : t.log = logAfterAll s.epoch s.log (l.flatMap (linkDownRecords s))
  nPort : t.nPort = s.nPort
  rest : SameBut (linkDownParts l (l.flatMap (linkDownRecords s))) s t

theorem State.OnNodeSide.answerLinkDown {s : State} {i : EntryIndex} {x : Txn} (h : s.OnNodeSide i x) :
    s.answerLinkDown i = s.becomeReturning i x (.refusal .linkDown) := by
  rcases h with h | ⟨d, h⟩ <;> simp [State.answerLinkDown, h]

theorem State.OnNodeSide.linkDownRecords {s : State} {i : EntryIndex} {x : Txn} (h : s.OnNodeSide i x) :
    linkDownRecords s i = completionRecords x (.refusal .linkDown) := by
  rcases h with h | ⟨d, h⟩ <;> simp [Machine.linkDownRecords, completionRecords, completionRecord, h, EntryState.txn?]

theorem State.OnNodeSide.unique {s : State} {i : EntryIndex} {x y : Txn} (h : s.OnNodeSide i x)
    (k : s.OnNodeSide i y) : x = y := by
  rcases h with h | ⟨d, h⟩ <;> rcases k with k | ⟨e, k⟩ <;> simp_all

/-- One entry on the node side is answered LINK_DOWN (R16). -/
theorem answeredLinkDown_one {s : State} {i : EntryIndex} {x : Txn} (h : s.OnNodeSide i x) :
    AnsweredLinkDown [i] s (s.answerLinkDown i) := by
  have given := becomeReturning_given i x (.refusal .linkDown) s
  rw [h.answerLinkDown]
  constructor
  case entry =>
    rintro j hj y hy
    obtain rfl := List.mem_singleton.mp hj
    rw [← h.unique hy]; exact given.entry
  case returns => exact given.returns
  case counted => exact given.counted _ rfl
  case discarded => exact given.discarded
  case log => simp [h.linkDownRecords]
  case nPort => simp
  case rest =>
    refine (frame_becomeReturning i x (.refusal .linkDown) s).mono ?_
    simp only [linkDownParts, answerParts, List.flatMap_singleton, h.linkDownRecords]
    grind

theorem answeredLinkDown_nil (s : State) : AnsweredLinkDown [] s s := by
  constructor <;> simp [SameBut.refl]

/-- An entry not in the list is not touched: with the next two lemmas, what the answers after these read (R16). -/
theorem AnsweredLinkDown.kept {l : List EntryIndex} {s t : State} (h : AnsweredLinkDown l s t) {i : EntryIndex}
    (hi : i ∉ l) : t.table[i] = s.table[i] :=
  h.rest (.entry i) (by simp [linkDownParts, mem_loggingParts, recordParts, noticeParts, hi])

theorem AnsweredLinkDown.sPort_link {l : List EntryIndex} {s t : State} (h : AnsweredLinkDown l s t) :
    t.sPort.link = s.sPort.link :=
  h.rest (.link .station) (by simp [linkDownParts, mem_loggingParts, recordParts, noticeParts])

theorem AnsweredLinkDown.epoch {l : List EntryIndex} {s t : State} (h : AnsweredLinkDown l s t) :
    t.epoch = s.epoch :=
  h.rest .epoch (by simp [linkDownParts, mem_loggingParts, recordParts, noticeParts])

theorem AnsweredLinkDown.entryState {l : List EntryIndex} {s t : State} (h : AnsweredLinkDown l s t) {i : EntryIndex}
    (hi : i ∉ l) : t.entryState i = s.entryState i := congrArg Entry.state (h.kept hi)

theorem AnsweredLinkDown.generation {l : List EntryIndex} {s t : State} (h : AnsweredLinkDown l s t) {i : EntryIndex}
    (hi : i ∉ l) : t.generation i = s.generation i := congrArg Entry.generation (h.kept hi)

/-- The answers of two lists without a common entry add up, in the order of the lists. -/
theorem AnsweredLinkDown.trans {l m : List EntryIndex} {s t u : State} (h : AnsweredLinkDown l s t)
    (k : AnsweredLinkDown m t u) (apart : ∀ i ∈ m, i ∉ l) : AnsweredLinkDown (l ++ m) s u := by
  have records : m.flatMap (linkDownRecords t) = m.flatMap (linkDownRecords s) := by
    rw [List.flatMap_def, List.flatMap_def]
    refine congrArg List.flatten (List.map_congr_left fun i hi => ?_)
    simp only [linkDownRecords, h.entryState (apart i hi)]
  constructor
  case entry =>
    intro i hi x hx
    by_cases him : i ∈ m
    · have hil := apart i him
      have side : t.OnNodeSide i x := by simpa [State.OnNodeSide, h.entryState hil] using hx
      simpa [h.generation hil, h.sPort_link] using k.entry i him x side
    · exact (k.kept him).trans (h.entry i (by simpa [him] using hi) x hx)
  case returns => rw [k.returns, h.returns, h.sPort_link]; split <;> simp
  case counted => rw [k.counted, h.counted]; simp [BitVec.ofNat_add, BitVec.add_assoc]
  case discarded =>
    rw [k.discarded, h.discarded, h.sPort_link]; split <;> simp [BitVec.ofNat_add, BitVec.add_assoc]
  case log => rw [k.log, h.log, h.epoch, records, List.flatMap_append, logAfterAll_append]
  case nPort => rw [k.nPort, h.nPort]
  case rest =>
    refine (h.rest.trans k.rest).mono ?_
    rw [records]
    intro p hp
    simp only [linkDownParts, List.mem_append, List.flatMap_append, mem_loggingParts_append, List.map_append] at hp ⊢
    grind

/-- The entries of a list, each on the node side, are answered one after another (R16). -/
theorem answeredLinkDown_foldl {l : List EntryIndex} (once : l.Nodup) :
    ∀ {s : State}, (∀ i ∈ l, ∃ x, s.OnNodeSide i x) → AnsweredLinkDown l s (l.foldl State.answerLinkDown s) := by
  induction l with
  | nil => exact fun {s} _ => answeredLinkDown_nil s
  | cons i l ih =>
    intro s side
    obtain ⟨hil, once⟩ := List.nodup_cons.mp once
    obtain ⟨x, hx⟩ := side i (by simp)
    have first := answeredLinkDown_one hx
    have apart : ∀ j ∈ l, j ∉ [i] := fun j hj hji => hil (List.mem_singleton.mp hji ▸ hj)
    refine first.trans (ih once fun j hj => ?_) apart
    simpa [State.OnNodeSide, first.entryState (apart j hj)] using side j (by simp [hj])

/-- The entries the loss of the N-port answers: the node transmit queue, then the IN_FLIGHT entries (R16). -/
def State.lostEntries (s : State) : List EntryIndex := s.nPort.queue ++ s.inFlightEntries

theorem EntryState.isInFlight_iff {st : EntryState} : st.isInFlight = true ↔ ∃ x d, st = .inFlight x d := by
  cases st <;> simp [EntryState.isInFlight]

/-- By the law of the queues, the entries lost are those on the node side (R177). -/
theorem QueueLaw.mem_lostEntries {s : State} (law : QueueLaw s) {i : EntryIndex} :
    i ∈ s.lostEntries ↔ ∃ x, s.OnNodeSide i x := by
  simp [State.lostEntries, State.inFlightEntries, entryIndices, law.queued, EntryState.isInFlight_iff,
    State.OnNodeSide, exists_or]

theorem QueueLaw.lostEntries_nodup {s : State} (law : QueueLaw s) : s.lostEntries.Nodup := by
  refine List.nodup_append.mpr ⟨law.queuedOnce, List.Pairwise.filter _ (List.nodup_finRange _), ?_⟩
  rintro i queued j inFlight rfl
  obtain ⟨x, hx⟩ := (law.queued i).mp queued
  simp [State.inFlightEntries, hx, EntryState.isInFlight] at inFlight

/-- The port goes DOWN with its queue emptied and its transmission abandoned (R178). -/
def State.dropNode (s : State) : State := { s with nPort := ⟨.down, [], false⟩ }

theorem linkDownRecords_dropNode (s : State) : linkDownRecords s.dropNode = linkDownRecords s := rfl

theorem frame_dropNode (s : State) : SameBut [.link .node, .nodeQueue, .nodeTransmission] s s.dropNode := by
  intro p hp; cases p
  case link p => cases p <;> simp_all [Part.Kept, State.link, State.dropNode]
  all_goals simp_all [Part.Kept, State.dropNode, State.count]

/-- LINK_CHANGE is set when every entry lost has been answered (R16, R169, R178). -/
theorem QueueLaw.nodeLeavesUp_answers {s : State} (law : QueueLaw s) :
    ∃ t, s.nodeLeavesUp = t.setStatus .linkChange ∧ AnsweredLinkDown s.lostEntries s.dropNode t :=
  ⟨_, rfl, answeredLinkDown_foldl law.lostEntries_nodup fun _ hi => law.mem_lostEntries.mp hi⟩

theorem exec_lossOfSignal_node {s : State} (reaches : FrameReaches .node s) :
    exec (.lossOfSignal .node) s = .next s.nodeLeavesUp.settle := by
  show taken (State.loseSignal .node) s = _
  rw [taken_running reaches.running]
  cases h : s.link .node with
  | up => simp only [State.loseSignal, h, State.leaveUp]
  | down | syncing => exact absurd reaches.linkUp (by simp [h, Link.isUp])

/-- Settles O24: the entries lost are the ones on the node side, and answering one of them leaves all that the answers
after it read. -/
theorem nodePortLeavesUp : Obligations.NodePortLeavesUp := by
  intro s reaches law inFlight lost answered
  have mem : ∀ i, i ∈ lost ↔ answered i := fun _ => law.mem_lostEntries
  obtain ⟨t, leaves, ans⟩ : ∃ t, s.nodeLeavesUp = t.setStatus .linkChange ∧ AnsweredLinkDown lost s.dropNode t :=
    law.nodeLeavesUp_answers
  clear_value lost
  refine ⟨_, exec_lossOfSignal_node reaches, ?_, ?_, ?_, ?_, ?_, ?_, ?_, ?_, ?_⟩ <;> rw [leaves]
  · have port : t.nPort = ⟨.down, [], false⟩ := ans.nPort
    simp [State.settle, NodePort.started, Link.isUp, port]
  · intro i x hx
    simp only [State.settle_table, State.setStatus_table]
    exact ans.entry i ((mem i).mpr ⟨x, hx⟩) x hx
  · intro i hi
    simp only [State.settle_table, State.setStatus_table]
    exact ans.kept (mt (mem i).mp hi)
  · exact (State.setStatus_sPort_returns _ t).trans ans.returns
  · exact (State.setStatus_count _ _ t).trans ans.counted
  · exact (State.setStatus_count _ _ t).trans ans.discarded
  · exact (State.setStatus_log _ t).trans ans.log
  · simp
  · refine ((((frame_dropNode s).trans ans.rest).trans (frame_setStatus .linkChange t)).trans (frame_settle _)).mono ?_
    simp only [linkDownParts, linkDownRecords_dropNode, List.mem_append, List.mem_cons, List.not_mem_nil]
    grind

end Sys2Proof.Machine
end

section
/-! PROOFS. A hold deadline that expires. -/
namespace Sys2Proof.Machine

/-! ### What the answer and the forward step read -/

/-- An answer reads the S-port's link, the Return queue and its counters alone, so it may be said of an earlier state
from which these are kept (R9). -/
theorem GivenAnswer.from_before {i : EntryIndex} {g : Byte} {x : Txn} {a : Answer} {s u t : State} {changed : List Part}
    (h : GivenAnswer i g x a u t) (before : SameBut changed s u) (link : Part.link .station ∉ changed)
    (returns : Part.returns ∉ changed) (counters : ∀ c ≠ .logRecordsLost, Part.counter c ∉ changed) :
    GivenAnswer i g x a s t := by
  have hlink : u.sPort.link = s.sPort.link := before _ link
  have hreturns : u.sPort.returns = s.sPort.returns := before _ returns
  have hcount : ∀ c ≠ .logRecordsLost, u.count c = s.count c := fun c hc => before _ (counters c hc)
  constructor
  case entry => rw [h.entry, hlink]
  case returns => rw [h.returns, hlink, hreturns]
  case discarded => rw [h.discarded, hlink, hcount _ (by simp)]
  case counted => intro c hc; rw [h.counted c hc, hcount _ (by simp)]

/-- The forward step reads what an answer does, and the N-port's link and queue (R8). -/
theorem Forwarded.from_before {i : EntryIndex} {g : Byte} {x : Txn} {s u t : State} {changed : List Part}
    (h : Forwarded i g x u t) (before : SameBut changed s u) (links : ∀ p, Part.link p ∉ changed)
    (returns : Part.returns ∉ changed) (counters : ∀ c ≠ .logRecordsLost, Part.counter c ∉ changed)
    (queue : Part.nodeQueue ∉ changed) : Forwarded i g x s t := by
  have hlink : u.nPort.link = s.nPort.link := before _ (links .node)
  have hqueue : u.nPort.queue = s.nPort.queue := before _ queue
  constructor
  case up => intro isUp; rw [← hqueue]; exact h.up (hlink ▸ isUp)
  case notUp => intro notUp; exact (h.notUp (hlink ▸ notUp)).from_before before (links .station) returns counters

theorem forward_forwarded (i : EntryIndex) (x : Txn) (s : State) :
    Forwarded i (s.generation i) x s (s.forward i x) := by
  constructor
  case up => intro isUp; simp [isUp]
  case notUp =>
    intro notUp
    have answers : s.forward i x = s.becomeReturning i x (.refusal .linkDown) := by simp [State.forward, notUp]
    rw [answers]
    exact becomeReturning_given i x _ s

/-- An answer and a forward step set no status but those of the log (R9, R103). -/
theorem State.becomeReturning_isSet {k : EventKind} (notThreshold : k ≠ .logThreshold) (notLoss : k ≠ .logLoss)
    (i : EntryIndex) (x : Txn) (a : Answer) (s : State) :
    (s.becomeReturning i x a).events.isSet k = s.events.isSet k :=
  frame_becomeReturning i x a s (.status k) (by
    cases a <;> simp [answerParts, mem_loggingParts, recordParts, noticeParts, notThreshold, notLoss])

theorem State.forward_isSet {k : EventKind} (notThreshold : k ≠ .logThreshold) (notLoss : k ≠ .logLoss)
    (i : EntryIndex) (x : Txn) (s : State) : (s.forward i x).events.isSet k = s.events.isSet k := by
  unfold State.forward
  split
  · simp
  · exact State.becomeReturning_isSet notThreshold notLoss i x _ s

/-! ### The expiry -/

/-- What an expiry does before the default is applied: the removal of the hold, and HOLD_EXPIRED (R57 steps 1 and 2). -/
def State.noteExpiry (i : EntryIndex) (x : Txn) (d : PassRefuse) (s : State) : State :=
  (s.removeHold i (holdRecord .holdExpired x (defaultCause d) false)).setStatus .holdExpired

/-- What noting an expiry changes. -/
def noteExpiryParts : List Part := [.holdQueue] ++ statusParts .holdWaiting ++ recordParts ++ statusParts .holdExpired

theorem exec_holdDeadlineExpiry {i : EntryIndex} {x : Txn} {hold : Hold} {s : State} (running : s.heldInReset = false)
    (held : s.entryState i = .held x hold) :
    exec (.holdDeadlineExpiry i) s
      = .next ((s.noteExpiry i x hold.default).applyDefault i x hold.default).settle := by
  show taken (State.expireHold i) s = _
  rw [taken_running running]
  simp only [State.expireHold, held, State.noteExpiry]

theorem frame_noteExpiry (i : EntryIndex) (x : Txn) (d : PassRefuse) (s : State) :
    SameBut noteExpiryParts s (s.noteExpiry i x d) :=
  (frame_removeHold i _ s).trans (frame_setStatus .holdExpired _)

section
variable (i : EntryIndex) (x : Txn) (d : PassRefuse) (s : State)

@[simp] theorem State.noteExpiry_generation (j : EntryIndex) : (s.noteExpiry i x d).generation j = s.generation j := by
  simp [State.noteExpiry]

@[simp] theorem State.noteExpiry_epoch : (s.noteExpiry i x d).epoch = s.epoch := by simp [State.noteExpiry]

@[simp] theorem State.noteExpiry_nPort : (s.noteExpiry i x d).nPort = s.nPort := by simp [State.noteExpiry]

@[simp] theorem State.noteExpiry_holdQueue :
    (s.noteExpiry i x d).holdQueue = s.holdQueue.filter fun r => r.index ≠ i := by simp [State.noteExpiry]

@[simp] theorem State.noteExpiry_log :
    (s.noteExpiry i x d).log = logAfter s.epoch s.log (holdRecord .holdExpired x (defaultCause d) false) := by
  simp [State.noteExpiry]

theorem State.noteExpiry_isSet_holdExpired : (s.noteExpiry i x d).events.isSet .holdExpired = true := by
  simp [State.noteExpiry]

theorem State.noteExpiry_isSet_holdWaiting :
    (s.noteExpiry i x d).events.isSet .holdWaiting = !(s.holdQueue.filter fun r => r.index ≠ i).isEmpty := by
  simp [State.noteExpiry]

theorem forwardParts_noteExpiry : forwardParts i (s.noteExpiry i x d) = forwardParts i s := by simp [forwardParts]

theorem forwardRecords_noteExpiry : forwardRecords x (s.noteExpiry i x d) = forwardRecords x s := by
  simp [forwardRecords]

theorem noteExpiry_given (a : Answer) :
    GivenAnswer i (s.generation i) x a s ((s.noteExpiry i x d).becomeReturning i x a) := by
  have given := becomeReturning_given i x a (s.noteExpiry i x d)
  rw [State.noteExpiry_generation] at given
  refine given.from_before (frame_noteExpiry i x d s) ?_ ?_ ?_ <;>
    simp [noteExpiryParts, statusParts, recordParts, noticeParts]

theorem noteExpiry_forwarded : Forwarded i (s.generation i) x s ((s.noteExpiry i x d).forward i x) := by
  have forwarded := forward_forwarded i x (s.noteExpiry i x d)
  rw [State.noteExpiry_generation] at forwarded
  refine forwarded.from_before (frame_noteExpiry i x d s) ?_ ?_ ?_ ?_ <;>
    simp [noteExpiryParts, statusParts, recordParts, noticeParts]

end

/-- The end of a step takes no answer and no forward step back. -/
theorem GivenAnswer.settle {i : EntryIndex} {g : Byte} {x : Txn} {a : Answer} {s t : State}
    (h : GivenAnswer i g x a s t) : GivenAnswer i g x a s t.settle := ⟨h.entry, h.returns, h.discarded, h.counted⟩

theorem Forwarded.settle {i : EntryIndex} {g : Byte} {x : Txn} {s t : State} (h : Forwarded i g x s t) :
    Forwarded i g x s t.settle := ⟨h.up, fun notUp => (h.notUp notUp).settle⟩

/-- The refusal HOLD_EXPIRED has no completion record (R20). -/
theorem completionRecords_holdExpired (x : Txn) : completionRecords x (.refusal .holdExpired) = [] := by
  simp [completionRecords, completionRecord]

/-- Settles O27: the hold is removed and its expiry noted, and on the state that leaves the default is the forward step
or the answer HOLD_EXPIRED. -/
theorem holdDeadlineExpires : Obligations.HoldDeadlineExpires := by
  intro i x hold s running held left passed refused changed
  have expires := exec_holdDeadlineExpiry running held
  refine ⟨fun pass => ?_, fun refuse => ?_⟩
  · rw [pass] at expires
    refine ⟨_, expires, (noteExpiry_forwarded i x .pass s).settle, ?_, ?_, ?_, ?_, ?_⟩
    · simp [State.applyDefault, left]
    · simp [State.applyDefault, State.forward_isSet, State.noteExpiry_isSet_holdExpired]
    · simp [State.applyDefault, State.forward_isSet, State.noteExpiry_isSet_holdWaiting, left]
    · simp [State.applyDefault, forwardRecords_noteExpiry, passed, defaultCause]
    · have default := frame_forward i x (s.noteExpiry i x .pass)
      rw [forwardParts_noteExpiry, forwardRecords_noteExpiry] at default
      refine (((frame_noteExpiry i x .pass s).trans default).trans (frame_settle _)).mono ?_
      simp only [noteExpiryParts, changed, passed, loggingParts_cons, List.mem_append, mem_loggingParts]
      grind
  · rw [refuse] at expires
    refine ⟨_, expires, (noteExpiry_given i x .refuse s _).settle, ?_, ?_, ?_, ?_, ?_⟩
    · simp [State.applyDefault, left]
    · simp [State.applyDefault, State.becomeReturning_isSet, State.noteExpiry_isSet_holdExpired]
    · simp [State.applyDefault, State.becomeReturning_isSet, State.noteExpiry_isSet_holdWaiting, left]
    · simp [State.applyDefault, completionRecords_holdExpired, refused, defaultCause]
    · have default := frame_becomeReturning i x (.refusal .holdExpired) (s.noteExpiry i x .refuse)
      rw [completionRecords_holdExpired] at default
      refine (((frame_noteExpiry i x .refuse s).trans default).trans (frame_settle _)).mono ?_
      simp only [noteExpiryParts, changed, refused, loggingParts_cons, loggingParts_nil, List.mem_append]
      grind

end Sys2Proof.Machine
end

section
/-! PROOFS. An edge of SYNC_IN. -/
namespace Sys2Proof.Machine

/-! ### The sync mode chooses what an edge does (R71) -/

theorem State.syncEdge_off {s : State} (off : s.epoch.sync = .off) : s.syncEdge = s := by
  simp [State.syncEdge, off]

theorem State.syncEdge_capture {s : State} (capture : s.epoch.sync = .capture) : s.syncEdge = s.captureSync := by
  simp [State.syncEdge, capture]

theorem State.syncEdge_restart {s : State} (restart : s.epoch.sync = .restart) :
    s.syncEdge = s.captureSync.takeBoundary := by simp [State.syncEdge, restart]

/-- A capture changes the Epoch Timer and nothing else (R71). -/
theorem frame_captureSync (s : State) : SameBut [.epoch] s s.captureSync := by
  intro p hp; cases p <;> simp_all [Part.Kept, State.captureSync, State.count]
  case link p => cases p <;> rfl

/-! ### The transition at the pin -/

/-- While the part runs, a low-to-high transition is an edge (R71). -/
theorem exec_syncInEdge_lowToHigh {s : State} (running : s.heldInReset = false) :
    exec (.syncInEdge .lowToHigh) s = .next s.syncEdge.settle := taken_running running _

/-- A high-to-low transition has no effect of its own (R71). -/
theorem exec_syncInEdge_highToLow {s : State} (running : s.heldInReset = false) :
    exec (.syncInEdge .highToLow) s = .next s.settle := taken_running running id

theorem exec_epochBoundary {s : State} (running : s.heldInReset = false) :
    exec .epochBoundary s = .next s.takeBoundary.settle := taken_running running _

/-- Settles O30, by the sync mode: no effect, the capture alone, or the boundary that the captured state takes. -/
theorem syncEdgeByMode : Obligations.SyncEdgeByMode := by
  intro s running captured
  have edge := exec_syncInEdge_lowToHigh running
  refine ⟨⟨_, exec_syncInEdge_highToLow running, frame_settle s⟩, fun off => ?_, fun capture => ?_, fun restart => ?_⟩
  · rw [State.syncEdge_off off] at edge
    exact ⟨_, edge, frame_settle s⟩
  · rw [State.syncEdge_capture capture] at edge
    exact ⟨_, edge, rfl, (frame_captureSync s).trans (frame_settle _)⟩
  · rw [State.syncEdge_restart restart] at edge
    have boundary : exec .epochBoundary captured = .next s.captureSync.takeBoundary.settle := exec_epochBoundary running
    rw [edge, boundary]

end Sys2Proof.Machine
end

section
/-! PROOFS. COMMIT and ABORT_COMMIT. -/
namespace Sys2Proof.Machine

/-! ### The scan for an offending window (R82) -/

/-- The window of a slot's rule, if it has one, lies below an epoch length. -/
def SlotFits (length : Nat) (slot : Option Rule) : Prop :=
  ∀ r w, slot = some r → r.window = some w → w.openOffset < length ∧ w.closeOffset < length

theorem Bank.windowsFit_iff (b : Bank) :
    b.WindowsFit ↔ ∀ n : Fin Config.bankSlots, SlotFits b.params.epochLength b.slots[n] := Iff.rfl

section
variable {length slot : Nat} {w : Window}

theorem windowFault_open (h : length ≤ w.openOffset) :
    windowFault length slot w = some ⟨slot, false, w.openOffset⟩ := by simp [windowFault, h]

theorem windowFault_close (hopen : w.openOffset < length) (h : length ≤ w.closeOffset) :
    windowFault length slot w = some ⟨slot, true, w.closeOffset⟩ := by
  simp [windowFault, Nat.not_le.2 hopen, h]

theorem windowFault_fits (hopen : w.openOffset < length) (hclose : w.closeOffset < length) :
    windowFault length slot w = none := by
  simp [windowFault, Nat.not_le.2 hopen, Nat.not_le.2 hclose]

end

/-- The scan goes past a slot that fits. -/
theorem firstWindowFault_cons_of_fits {length : Nat} {slot : Option Rule} (fits : SlotFits length slot) (start : Nat)
    (rest : List (Option Rule)) :
    firstWindowFault length start (slot :: rest) = firstWindowFault length (start + 1) rest := by
  rcases slot with _ | r
  case none => rfl
  case some =>
    have noFault : r.window.bind (windowFault length start) = none := by
      rcases hw : r.window with _ | w
      case none => rfl
      case some =>
        obtain ⟨hopen, hclose⟩ := fits r w rfl hw
        exact windowFault_fits hopen hclose
    simp [firstWindowFault, noFault]

/-- The scan ends at a slot whose window has a fault. -/
theorem firstWindowFault_cons_of_fault {length start : Nat} {r : Rule} {w : Window} {f : WindowFault}
    (hw : r.window = some w) (hf : windowFault length start w = some f) (rest : List (Option Rule)) :
    firstWindowFault length start (some r :: rest) = some f := by simp [firstWindowFault, hw, hf]

theorem firstWindowFault_append_of_fits {length : Nat} (start : Nat) (before rest : List (Option Rule))
    (fits : ∀ slot ∈ before, SlotFits length slot) :
    firstWindowFault length start (before ++ rest) = firstWindowFault length (start + before.length) rest := by
  induction before generalizing start with
  | nil => rfl
  | cons slot before ih =>
    obtain ⟨first, others⟩ := List.forall_mem_cons.1 fits
    rw [List.cons_append, firstWindowFault_cons_of_fits first, ih _ others, List.length_cons, Nat.add_right_comm,
      Nat.add_assoc]

theorem Bank.windowFault_eq_none {b : Bank} (fit : b.WindowsFit) : b.windowFault = none := by
  have fits : ∀ slot ∈ b.slots.toList, SlotFits b.params.epochLength slot := by
    intro slot hslot
    obtain ⟨k, hk, rfl⟩ := List.getElem_of_mem hslot
    exact b.windowsFit_iff.1 fit ⟨k, by simpa using hk⟩
  calc
    b.windowFault = firstWindowFault b.params.epochLength 0 (b.slots.toList ++ []) := by
      rw [List.append_nil, Bank.windowFault]
    _ = none := firstWindowFault_append_of_fits 0 b.slots.toList [] fits

/-- The fault of a bank is that of the first slot whose window has one. -/
theorem Bank.windowFault_eq_some {b : Bank} {n : Fin Config.bankSlots} {r : Rule} {w : Window} {f : WindowFault}
    (hr : b.slots[n] = some r) (hw : r.window = some w)
    (earlier : ∀ k : Fin Config.bankSlots, k < n → SlotFits b.params.epochLength b.slots[k])
    (hf : Machine.windowFault b.params.epochLength n w = some f) : b.windowFault = some f := by
  have hn : n.val < b.slots.toList.length := by simp
  have fits : ∀ slot ∈ b.slots.toList.take n, SlotFits b.params.epochLength slot := by
    intro slot hslot
    obtain ⟨k, hk, rfl⟩ := List.getElem_of_mem hslot
    have hkn : k < n.val := by simp at hk; omega
    simpa using earlier ⟨k, Nat.lt_trans hkn n.isLt⟩ hkn
  have cut : b.slots.toList = b.slots.toList.take n ++ some r :: b.slots.toList.drop (n + 1) := by
    have slot : b.slots.toList[n.val] = some r := by simpa using hr
    rw [← slot, List.getElem_cons_drop, List.take_append_drop]
  have start : 0 + (b.slots.toList.take n).length = n := by simp [Nat.le_of_lt n.isLt]
  rw [Bank.windowFault, cut, firstWindowFault_append_of_fits _ _ _ fits, start, firstWindowFault_cons_of_fault hw hf]

/-! ### A new Commit Control -/

/-- Commit Control is given a state and a generation. -/
def State.setCommit (c : CommitControl) (s : State) : State := { s with commit := c }

@[simp] theorem State.setCommit_commit (c : CommitControl) (s : State) : (s.setCommit c).commit = c := rfl

theorem frame_setCommit (c : CommitControl) (s : State) : SameBut [.commit] s (s.setCommit c) := by
  intro p hp; cases p <;> simp_all [Part.Kept, State.setCommit, State.count]
  case link p => cases p <;> rfl

/-! ### The tests in order (R81, R83, R85) -/

theorem rejectedPayload_eq (f : WindowFault) (length : Nat) :
    rejectedPayload f length = [BitVec.ofNat 8 f.slot, if f.closing then 2 else 1] ++ bigEndian 3 f.offset
      ++ bigEndian 3 length := by simp [rejectedPayload]

theorem State.acceptedPayload_eq (s : State) :
    s.acceptedPayload = bytesOf16 s.commit.generation ++ bytesOf16 (nextNumber s.commit.generation)
      ++ bigEndian 4 s.epoch.number.toNat ++ bigEndian 3 s.epoch.offset ++ bigEndian 3 s.epochLength := by
  simp only [State.acceptedPayload, bytesOf16_eq]

section
variable {s : State}

theorem commitBody_fallback (mode : s.control.mode = .fallback) : commitBody s = s.answer .inFallback [] := by
  simp [commitBody, mode]

theorem commitBody_pending (mode : s.control.mode = .governed) (pending : s.commit.state = .pending) :
    commitBody s = s.answer .commitPending [] := by simp [commitBody, mode, pending]

theorem commitBody_rejected {f : WindowFault} (mode : s.control.mode = .governed) (idle : s.commit.state = .idle)
    (fault : s.shadow.windowFault = some f) :
    commitBody s = s.answer .commitRejected (rejectedPayload f s.shadow.params.epochLength) := by
  simp [commitBody, mode, idle, fault]

theorem commitBody_accepted (mode : s.control.mode = .governed) (idle : s.commit.state = .idle)
    (fit : s.shadow.WindowsFit) :
    commitBody s = (s.setCommit ⟨.pending, s.commit.generation⟩).answer .accepted s.acceptedPayload := by
  simp [commitBody, mode, idle, Bank.windowFault_eq_none fit, State.setCommit]

theorem abortCommitBody_pending (pending : s.commit.state = .pending) :
    abortCommitBody s = (s.setCommit ⟨.idle, s.commit.generation⟩).answer .done
      (bytesOf16 s.commit.generation ++ [0]) := by
  simp [abortCommitBody, pending, State.commitPayload, ← bytesOf16_eq, CommitState.code, State.setCommit]

theorem abortCommitBody_idle (idle : s.commit.state = .idle) :
    abortCommitBody s = s.answer .nothingPending (bytesOf16 s.commit.generation ++ [0]) := by
  simp [abortCommitBody, idle, State.commitPayload, ← bytesOf16_eq, CommitState.code]

end

/-! ### New commands that change Commit Control, or nothing -/

section
variable {h : CommandHeader} {o : OpenSession} {s : State} {c : CommandName} {args : List Byte}
  {body : State → Answered} {result : ResultCode} {payload : List Byte}

/-- A new command whose execution changes nothing is answered (R137). -/
theorem command_answers (new : NewCommand h o s) (form : args.length = c.argBytes)
    (answer : body (s.accept .station) = (s.accept .station).answer result payload) :
    ∃ t, command c h args body s = .next t ∧ Answers c.code h o result payload [] s t := by
  refine ⟨_, command_new new c args body, ?_⟩
  rw [executed, if_pos form, answer]
  exact answers_of_effect new c.code ((s.accept .station).answer result payload) [] (SameBut.refl [] _) (by simp)
    (by simp) (by simp) (by simp)

/-- A new command whose execution leaves a new Commit Control and changes nothing else (R83, R85, R137). -/
theorem command_answers_commit (new : NewCommand h o s) (form : args.length = c.argBytes) (control : CommitControl)
    (answer : body (s.accept .station) = ((s.accept .station).setCommit control).answer result payload) :
    ∃ t, command c h args body s = .next t ∧ Answers c.code h o result payload [.commit] s t
      ∧ t.commit = control := by
  refine ⟨_, command_new new c args body, ?_⟩
  rw [executed, if_pos form, answer]
  exact ⟨answers_of_effect new c.code (((s.accept .station).setCommit control).answer result payload) [.commit]
    (frame_setCommit control _) (by simp) (by simp) (by simp) (by simp), by simp [answerNew, State.answer]⟩

end

theorem exec_commit (h : CommandHeader) (args : List Byte) (s : State) :
    exec (.commit h args) s = command .commit h args commitBody s := rfl

theorem exec_abortCommit (h : CommandHeader) (args : List Byte) (s : State) :
    exec (.abortCommit h args) s = command .abortCommit h args abortCommitBody s := rfl

/-- COMMIT is rejected for the first window fault of the shadow bank (R82). -/
theorem exec_commit_rejected {h : CommandHeader} {o : OpenSession} {s : State} {f : WindowFault}
    (new : NewCommand h o s) (mode : s.control.mode = .governed) (idle : s.commit.state = .idle)
    (fault : s.shadow.windowFault = some f) :
    ∃ t, exec (.commit h []) s = .next t
      ∧ Answers 0x30 h o .commitRejected ([BitVec.ofNat 8 f.slot, if f.closing then 2 else 1]
        ++ bigEndian 3 f.offset ++ bigEndian 3 s.shadow.params.epochLength) [] s t := by
  rw [exec_commit]
  refine command_answers new rfl ?_
  rw [commitBody_rejected (by simpa using mode) (by simpa using idle) (by simpa using fault), rejectedPayload_eq,
    State.accept_shadow]

/-- Settles O33, by the tests of R81 in order, the scan of R82, and the commit state. -/
theorem commitAndAbort : Obligations.CommitAndAbort := by
  intro h o s new g next
  refine ⟨fun mode => ?inFallback, fun mode pending => ?pending, fun mode idle fit => ?accepted,
    fun n r w mode idle hr hw earlier => ⟨fun hopen => ?opening, fun hopen hclose => ?closing⟩,
    fun pending => ?aborted, fun idle => ?nothing⟩
  case inFallback =>
    rw [exec_commit]
    exact command_answers new rfl (commitBody_fallback (by simpa using mode))
  case pending =>
    rw [exec_commit]
    exact command_answers new rfl (commitBody_pending (by simpa using mode) (by simpa using pending))
  case accepted =>
    rw [exec_commit]
    refine command_answers_commit new rfl _ ?_
    rw [commitBody_accepted (by simpa using mode) (by simpa using idle) (by simpa using fit), State.acceptedPayload_eq,
      State.accept_commit, State.accept_epoch, State.accept_epochLength]
    rfl
  case opening =>
    exact exec_commit_rejected new mode idle (Bank.windowFault_eq_some hr hw earlier (windowFault_open hopen))
  case closing =>
    exact exec_commit_rejected new mode idle (Bank.windowFault_eq_some hr hw earlier (windowFault_close hopen hclose))
  case aborted =>
    rw [exec_abortCommit]
    refine command_answers_commit new rfl _ ?_
    rw [abortCommitBody_pending (by simpa using pending), State.accept_commit]
  case nothing =>
    rw [exec_abortCommit]
    refine command_answers new rfl ?_
    rw [abortCommitBody_idle (by simpa using idle), State.accept_commit]

end Sys2Proof.Machine
end

section
/-! PROOFS. The Capture Log takes a record: appended while there is room, at a full log displacing the oldest or lost. -/
namespace Sys2Proof.Machine

/-! ### The log's list, by its fill and mode -/

@[simp] theorem logAfter_nextSequence (e : EpochTimer) (l : CaptureLog) (b : RecordBody) :
    (logAfter e l b).nextSequence = l.nextSequence + 1 := by
  unfold logAfter
  split
  · rfl
  · split <;> rfl

/-- A log with room appends the record and loses none (R99, R100). -/
theorem logAfter_of_room {l : CaptureLog} (e : EpochTimer) (b : RecordBody) (room : l.records.length < 256) :
    logAfter e l b = { l with
      nextSequence := l.nextSequence + 1
      records := l.records ++ [⟨l.nextSequence, e.number, e.offset, b⟩] } := if_pos room

/-- A full log that wraps displaces its oldest record (R100, R102). -/
theorem logAfter_of_full_wrap {l : CaptureLog} (e : EpochTimer) (b : RecordBody) (full : 256 ≤ l.records.length)
    (wrap : l.mode = .wrap) :
    logAfter e l b = { l with
      nextSequence := l.nextSequence + 1
      records := l.records.tail ++ [⟨l.nextSequence, e.number, e.offset, b⟩]
      lostCount := l.lostCount + 1 } := by
  simp [logAfter, Nat.not_lt_of_le full, wrap]

/-- A full log that stops discards the record; its number is consumed all the same (R99, R101, R102). -/
theorem logAfter_of_full_stop {l : CaptureLog} (e : EpochTimer) (b : RecordBody) (full : 256 ≤ l.records.length)
    (stop : l.mode = .stop) :
    logAfter e l b = { l with nextSequence := l.nextSequence + 1, lostCount := l.lostCount + 1 } := by
  simp [logAfter, Nat.not_lt_of_le full, stop]

/-- A full log loses one record in either mode (R102). -/
theorem logAfter_lostCount_of_full {l : CaptureLog} (e : EpochTimer) (b : RecordBody) (full : 256 ≤ l.records.length) :
    (logAfter e l b).lostCount = l.lostCount + 1 := by
  cases mode : l.mode with
  | wrap => rw [logAfter_of_full_wrap e b full mode]
  | stop => rw [logAfter_of_full_stop e b full mode]

/-- The list a full log holds afterwards: the mode decides which record is lost (R100, R101). -/
theorem logAfter_records_of_full {l : CaptureLog} (e : EpochTimer) (b : RecordBody) (full : 256 ≤ l.records.length) :
    (logAfter e l b).records
      = if l.mode = .wrap then l.records.tail ++ [⟨l.nextSequence, e.number, e.offset, b⟩] else l.records := by
  cases mode : l.mode with
  | wrap => rw [logAfter_of_full_wrap e b full mode, if_pos rfl]
  | stop => rw [logAfter_of_full_stop e b full mode, if_neg nofun]

/-- Settles O34, by the fill and at a full log by the mode: the log is `logAfter`, and the counter, the two statuses and
the frame are the laws of `State.logRecord`. -/
theorem logTakesRecord : Obligations.LogTakesRecord := by
  intro b s t record
  have log : t.log = logAfter s.epoch s.log b := State.logRecord_log b s
  refine ⟨by rw [log, logAfter_nextSequence], fun room => ?appended, fun full => ?lost,
    State.logRecord_log_mode b s, State.logRecord_log_threshold b s, State.logRecord_log_refusalLogging b s,
    State.logRecord_log_strayLogging b s, frame_logRecord b s⟩
  case appended =>
    rw [log, logAfter_of_room s.epoch b room]
    exact ⟨rfl, rfl, by simp [t, Nat.not_le_of_lt room], by simp [t, Nat.not_le_of_lt room], by simp [t, room]⟩
  case lost =>
    rw [log, logAfter_records_of_full s.epoch b full, logAfter_lostCount_of_full s.epoch b full]
    exact ⟨rfl, rfl, by simp [t, full], by simp [t, full], by simp [t, Nat.not_lt_of_le full]⟩

end Sys2Proof.Machine
end

section
/-! PROOFS. CLEAR_EVENTS, SET_EVENTS and ACK_NOTICE, and the notice condition that a command has evaluated. -/
namespace Sys2Proof.Machine

/-! ### Event sets in arguments and replies (R188) -/

theorem toNat_append_bytes (hi lo : Byte) : (hi ++ lo).toNat = hi.toNat * 256 + lo.toNat := by
  rw [BitVec.toNat_append, ← Nat.shiftLeft_add_eq_or_of_lt lo.isLt, Nat.shiftLeft_eq]

theorem field_two (hi lo : Byte) (rest : List Byte) : field (hi :: lo :: rest) 0 2 = (hi ++ lo).toNat := by
  rw [toNat_append_bytes]; simp [field, spelled]

/-- Two argument bytes name kinds among the thirteen exactly when the high byte is below 32. -/
theorem toNat_append_lt_iff (hi lo : Byte) : (hi ++ lo).toNat < 8192 ↔ hi.toNat < 32 := by
  have low := lo.isLt
  rw [toNat_append_bytes]; omega

theorem readEventSet_of_lt {hi : Byte} (inRange : hi.toNat < 32) (lo : Byte) :
    readEventSet (hi ++ lo).toNat = some ((hi ++ lo).setWidth 13) := by
  rw [readEventSet, if_pos ((toNat_append_lt_iff hi lo).2 inRange), BitVec.ofNat_toNat]

theorem readEventSet_of_le {hi : Byte} (outside : 32 ≤ hi.toNat) (lo : Byte) :
    readEventSet (hi ++ lo).toNat = none :=
  if_neg fun lt => Nat.not_lt.2 outside ((toNat_append_lt_iff hi lo).1 lt)

theorem eventSetBytes_eq (e : EventSet) : eventSetBytes e = bytesOf16 (e.setWidth 16) := by
  rw [eventSetBytes, ← bytesOf16_eq, BitVec.toNat_setWidth_of_le (by decide)]

theorem EventKind.bit_lt (k : EventKind) : k.bit < 13 := by cases k <;> decide

theorem fixedEvents_getLsbD (k : EventKind) :
    fixedEvents.getLsbD k.bit = decide (k = .livenessWarning ∨ k = .fallbackEntered) := by cases k <;> rfl

theorem mem_allEventKinds (k : EventKind) : k ∈ allEventKinds := by cases k <;> decide

/-! ### The notice condition is evaluated (R117, R118) -/

/-- With a session open, a notice is due exactly when the sender is IDLE and the notice condition holds. -/
theorem State.noticeDue_opened {o : OpenSession} {s : State} (opened : s.session.current = some o) :
    s.noticeDue = if s.notice.state = .idle ∧ s.events.status &&& s.events.enable &&& ~~~s.events.line ≠ 0
      then some o.owner else none := by
  cases state : s.notice.state with
  | idle => by_cases holds : s.events.noticeSet = 0 <;> simp_all [State.noticeDue, EventUnit.noticeSet]
  | awaitingAck d => simp [State.noticeDue, opened, state]

theorem noticeEvaluated_evalNotice {o : OpenSession} {s : State} (opened : s.session.current = some o) :
    NoticeEvaluated o.owner s s.evalNotice := by
  unfold NoticeEvaluated State.evalNotice
  rw [State.noticeDue_opened opened]
  split
  case isTrue => exact ⟨by simp [State.makeNotice, State.retryDeadline, millis]; omega, rfl⟩
  case isFalse => exact ⟨rfl, rfl⟩

/-- The evaluation reads nothing that accepting a frame changes. -/
theorem noticeEvaluated_accept {p : PortName} {owner : Byte} {s t : State} :
    NoticeEvaluated owner (s.accept p) t ↔ NoticeEvaluated owner s t := by
  simp [NoticeEvaluated, noticeNow]

/-- The condition may be evaluated after the command's frame is accepted as well as before. -/
theorem noticeEvaluated_accept_evalNotice {o : OpenSession} {s : State} (p : PortName)
    (opened : s.session.current = some o) : NoticeEvaluated o.owner s (s.accept p).evalNotice :=
  noticeEvaluated_accept.1 (noticeEvaluated_evalNotice (by rwa [State.accept_session]))

/-- The evaluation speaks of the sender and its slot alone. -/
theorem NoticeEvaluated.of_eq {owner : Byte} {s t u : State} (h : NoticeEvaluated owner s t)
    (notice : u.notice = t.notice) (slot : u.sPort.slot = t.sPort.slot) : NoticeEvaluated owner s u := by
  unfold NoticeEvaluated at *
  rwa [notice, slot]

/-! ### New commands that act on the Event Unit -/

/-- A new command that is executed is answered, and what it leaves in the Event Unit stays (R137). -/
theorem command_answers_effect {h : CommandHeader} {o : OpenSession} {s : State} {body : State → Answered}
    {result : ResultCode} {payload : List Byte} {changed : List Part} {u : State}
    (new : NewCommand h o s) (c : CommandName) (args : List Byte) (form : args.length = c.argBytes)
    (answer : body (s.accept .station) = u.answer result payload) (frame : SameBut changed (s.accept .station) u)
    (others : ∀ p ∈ [.counter (.framesAccepted .station), .link .station, .replies, .now], p ∉ changed) :
    ∃ t, command c h args body s = .next t ∧ Answers c.code h o result payload changed s t
      ∧ t.events = u.events ∧ t.notice = u.notice ∧ t.sPort.slot = u.sPort.slot := by
  refine ⟨_, command_new new c args body, ?_⟩
  rw [executed, if_pos form, answer]
  exact ⟨answers_of_effect new c.code (u.answer result payload) changed frame (others _ (by simp)) (others _ (by simp))
    (others _ (by simp)) (others _ (by simp)), rfl, rfl, rfl⟩

/-! ### CLEAR_EVENTS (R114) -/

section
variable {hi : Byte} (lo : Byte) (s : State)

theorem clearEventsBody_inRange (inRange : hi.toNat < 32) :
    clearEventsBody [hi, lo] s = (s.clearSticky ((hi ++ lo).setWidth 13)).answer .done
      (bytesOf16 ((s.clearSticky ((hi ++ lo).setWidth 13)).events.status.setWidth 16)) := by
  simp only [clearEventsBody, field_two, readEventSet_of_lt inRange, eventSetBytes_eq]

theorem clearEventsBody_outside (outside : 32 ≤ hi.toNat) :
    clearEventsBody [hi, lo] s = s.answer .badField [1, 0] := by
  simp only [clearEventsBody, field_two, readEventSet_of_le outside]; rfl

end

theorem State.clearSticky_isSet (e : EventSet) (k : EventKind) (s : State) :
    (s.clearSticky e).events.isSet k
      = if k = .holdWaiting then s.events.isSet k else s.events.isSet k && !e.getLsbD k.bit := by
  simp only [EventUnit.isSet, State.clearSticky, BitVec.getLsbD_and, EventKind.isSet_or_mask, BitVec.getLsbD_not,
    k.bit_lt, decide_true, Bool.true_and]
  split <;> simp [*]

/-- The statuses that can be cleared: all but HOLD_WAITING. -/
def stickyParts : List Part := (allEventKinds.filter (· ≠ .holdWaiting)).map .status

theorem frame_clearSticky (e : EventSet) (s : State) : SameBut stickyParts s (s.clearSticky e) := by
  intro p hp
  cases p
  case status k =>
    have holdWaiting : k = .holdWaiting := by simpa [stickyParts, mem_allEventKinds] using hp
    simp [Part.Kept, State.clearSticky_isSet, holdWaiting]
  case link p => cases p <;> rfl
  all_goals simp [Part.Kept, State.clearSticky, State.count]

theorem exec_clearEvents (h : CommandHeader) (args : List Byte) (s : State) :
    exec (.clearEvents h args) s = command .clearEvents h args (clearEventsBody args) s := rfl

/-! ### SET_EVENTS (R111, R113) -/

/-- The Event Unit is given its enables and routes. -/
def State.setRoutes (enable line : EventSet) (s : State) : State :=
  { s with events := { s.events with enable := enable, line := line } }

theorem State.writeEvents_eq (e l : EventSet) (s : State) :
    s.writeEvents e l = (s.setRoutes (e ||| fixedEvents) (l ||| fixedEvents)).evalNotice := rfl

theorem State.accept_setRoutes (e l : EventSet) (p : PortName) (s : State) :
    (s.accept p).setRoutes e l = (s.setRoutes e l).accept p := by cases p <;> rfl

theorem frame_setRoutes (e l : EventSet) (s : State) : SameBut [.eventSettings] s (s.setRoutes e l) := by
  intro p hp; cases p <;> simp_all [Part.Kept, State.setRoutes, State.count, EventUnit.isSet]
  case link p => cases p <;> rfl

/-- The enables or routes that two argument bytes write: the kinds they name, and the two fixed ones. -/
def writtenSet (hi lo : Byte) : EventSet := (hi ++ lo).setWidth 13 ||| fixedEvents

theorem writtenSet_getLsbD (hi lo : Byte) (k : EventKind) :
    (writtenSet hi lo).getLsbD k.bit
      = (decide (k = .livenessWarning ∨ k = .fallbackEntered) || (hi ++ lo).getLsbD k.bit) := by
  rw [writtenSet, BitVec.getLsbD_or, fixedEvents_getLsbD, BitVec.getLsbD_setWidth, decide_eq_true k.bit_lt,
    Bool.true_and, Bool.or_comm]

section
variable {hi hj : Byte} (lo lj : Byte) (s : State)

theorem field_two_second (a b : Byte) : field [a, b, hj, lj] 2 2 = (hj ++ lj).toNat := field_two hj lj []

theorem setEventsBody_inRange (enables : hi.toNat < 32) (routes : hj.toNat < 32) :
    setEventsBody [hi, lo, hj, lj] s = (s.setRoutes (writtenSet hi lo) (writtenSet hj lj)).evalNotice.answer .done
      (bytesOf16 ((writtenSet hi lo).setWidth 16) ++ bytesOf16 ((writtenSet hj lj).setWidth 16)) := by
  simp only [setEventsBody, field_two, field_two_second, readEventSet_of_lt enables, readEventSet_of_lt routes,
    eventSetBytes_eq, State.writeEvents_eq, writtenSet]

theorem setEventsBody_enables_outside (enables : 32 ≤ hi.toNat) :
    setEventsBody [hi, lo, hj, lj] s = s.answer .badField [1, 0] := by
  simp only [setEventsBody, field_two, readEventSet_of_le enables]; rfl

theorem setEventsBody_routes_outside (enables : hi.toNat < 32) (routes : 32 ≤ hj.toNat) :
    setEventsBody [hi, lo, hj, lj] s = s.answer .badField [2, 0] := by
  simp only [setEventsBody, field_two, field_two_second, readEventSet_of_lt enables, readEventSet_of_le routes]; rfl

end

theorem exec_setEvents (h : CommandHeader) (args : List Byte) (s : State) :
    exec (.setEvents h args) s = command .setEvents h args (setEventsBody args) s := rfl

/-- Settles O36, by whether each set lies among the thirteen kinds: the statuses left are those of `State.clearSticky`,
and SET_EVENTS is `State.setRoutes` followed by an evaluation of the notice condition. -/
theorem eventCommands : Obligations.EventCommands := by
  intro h o hi lo s new
  refine ⟨fun inRange => ?cleared, fun outside => ?notCleared, fun hj lj enables routes => ?set,
    fun hj lj => ⟨fun enables => ?badEnables, fun enables routes => ?badRoutes⟩⟩
  case cleared =>
    rw [exec_clearEvents]
    obtain ⟨t, taken, answers, events, -, -⟩ := command_answers_effect new .clearEvents [hi, lo] rfl
      (clearEventsBody_inRange lo (s.accept .station) inRange) (frame_clearSticky _ _) (by decide)
    refine ⟨t, taken, ?_, fun k => ?_⟩
    · rw [events]; exact answers
    · rw [events, State.clearSticky_isSet, BitVec.getLsbD_setWidth, decide_eq_true k.bit_lt, Bool.true_and,
        State.accept_events]
  case notCleared =>
    rw [exec_clearEvents]
    exact command_answers new rfl (clearEventsBody_outside lo _ outside)
  case set =>
    rw [exec_setEvents]
    obtain ⟨t, taken, answers, events, notice, slot⟩ := command_answers_effect new .setEvents [hi, lo, hj, lj] rfl
      (setEventsBody_inRange lo lj (s.accept .station) enables routes)
      ((frame_setRoutes _ _ _).trans (frame_evalNotice _)) (by decide)
    have settings : t.events = (s.setRoutes (writtenSet hi lo) (writtenSet hj lj)).events := by
      rw [events, State.evalNotice_events, State.accept_setRoutes, State.accept_events]
    rw [State.accept_setRoutes] at notice slot
    refine ⟨t, taken, ?_, fun k => ?_, ?_⟩ <;> rw [settings]
    · exact answers
    · exact ⟨writtenSet_getLsbD hi lo k, writtenSet_getLsbD hj lj k⟩
    · have evaluated := noticeEvaluated_accept_evalNotice .station
        (s := s.setRoutes (writtenSet hi lo) (writtenSet hj lj)) new.opened
      exact evaluated.of_eq notice slot
  case badEnables =>
    rw [exec_setEvents]
    exact command_answers new rfl (setEventsBody_enables_outside lo lj _ enables)
  case badRoutes =>
    rw [exec_setEvents]
    exact command_answers new rfl (setEventsBody_routes_outside lo lj _ enables routes)

/-! ### ACK_NOTICE (R121) -/

/-- The sender becomes IDLE, and a NOTICE that waits in the slot is removed. -/
def State.dropNotice (s : State) : State :=
  s.setSender { s.notice with state := .idle } (if s.sPort.sending = some .notice then s.sPort.slot else none)

theorem State.acknowledge_eq (s : State) : s.acknowledge = s.dropNotice.evalNotice := rfl

theorem State.accept_dropNotice (p : PortName) (s : State) : (s.accept p).dropNotice = s.dropNotice.accept p := by
  cases p <;> rfl

theorem frame_acknowledge (s : State) : SameBut noticeParts s s.acknowledge := by
  rw [State.acknowledge_eq]
  exact ((frame_setSender _ _ s).trans (frame_evalNotice _)).mono (by simp)

theorem State.noticeOutstanding_iff {s : State} {n : Byte} :
    s.noticeOutstanding n = true ↔ s.notice.state ≠ .idle ∧ n = s.notice.number := by
  cases state : s.notice.state <;> simp [State.noticeOutstanding, state, eq_comm]

theorem ackNoticeBody_outstanding {n : Byte} {s : State}
    (outstanding : s.notice.state ≠ .idle ∧ n = s.notice.number) :
    ackNoticeBody [n] s = s.acknowledge.answer .done [s.acknowledge.notice.state.code, s.acknowledge.notice.number] :=
  if_pos (State.noticeOutstanding_iff.2 outstanding)

theorem ackNoticeBody_stale {n : Byte} {s : State} (stale : s.notice.state = .idle ∨ n ≠ s.notice.number) :
    ackNoticeBody [n] s = s.answer .staleNotice [s.notice.state.code, s.notice.number] :=
  if_neg fun outstanding => by
    obtain ⟨awaiting, current⟩ := State.noticeOutstanding_iff.1 outstanding
    exact stale.elim awaiting (absurd current)

theorem exec_ackNotice (h : CommandHeader) (args : List Byte) (s : State) :
    exec (.ackNotice h args) s = command .ackNotice h args (ackNoticeBody args) s := rfl

/-- Settles O37, by whether the notice is outstanding under the number: an acknowledgement is `State.dropNotice`
followed by an evaluation of the notice condition. -/
theorem ackNoticeMatchesNumber : Obligations.AckNoticeMatchesNumber := by
  intro h o n s new
  refine ⟨fun d awaiting current => ?acknowledged, fun stale => ?stale⟩ <;> rw [exec_ackNotice]
  case acknowledged =>
    have outstanding : (s.accept .station).notice.state ≠ .idle ∧ n = (s.accept .station).notice.number := by
      simp [awaiting, current]
    obtain ⟨t, taken, answers, -, notice, slot⟩ := command_answers_effect new .ackNotice [n] rfl
      (ackNoticeBody_outstanding outstanding) (frame_acknowledge _) (by decide)
    refine ⟨t, taken, ?_, ?_⟩
    · rw [notice]; exact answers
    · rw [State.acknowledge_eq, State.accept_dropNotice] at notice slot
      exact (noticeEvaluated_accept_evalNotice .station (s := s.dropNotice) new.opened).of_eq notice slot
  case stale =>
    exact command_answers new rfl (ackNoticeBody_stale (s := s.accept .station) (by simpa using stale))

end Sys2Proof.Machine
end

section
/-! PROOFS. The session and sequence checks that every command but PROBE and OPEN passes first. -/
namespace Sys2Proof.Machine

/-! ### The checks by their outcome (R136, R138, R139) -/

theorem ownerBytes_eq (o : Option OpenSession) : ownerBytes o = ownerItem o := by
  cases o <;> simp [ownerBytes, ownerItem, optionalItem]

theorem State.ownerPayload_eq (s : State) :
    s.ownerPayload = ownerItem s.session.current ++ bytesOf16 s.session.number := by
  rw [State.ownerPayload, ownerBytes_eq, bytesOf16_eq]

section
variable {h : CommandHeader} {o : OpenSession} {s : State} (code : Byte) (onNew : OpenSession → State → State)

theorem sessionChecked_closed (closed : s.session.current = none) :
    sessionChecked code h onNew s = s.turnAway code h .noSession [] := by
  simp [sessionChecked, closed]

theorem sessionChecked_stranger (opened : s.session.current = some o) (stranger : h.source ≠ o.owner) :
    sessionChecked code h onNew s
      = s.turnAway code h .notOwner ([1, o.owner] ++ bytesOf16 s.session.number) := by
  simp [sessionChecked, opened, stranger, State.ownerPayload_eq, ownerItem]

theorem sessionChecked_notNew (opened : s.session.current = some o) (fromOwner : h.source = o.owner)
    (notExpected : h.sequence ≠ o.expected) : sessionChecked code h onNew s = s.notNew code h o := by
  simp [sessionChecked, opened, fromOwner, notExpected]

end

theorem State.notNew_duplicate {h : CommandHeader} {o : OpenSession} {l : LastCommand} (code : Byte) (s : State)
    (last : o.last = some l) (same : l.sequence = h.sequence) :
    s.notNew code h o = s.answerDuplicate l.reply := by
  simp [State.notNew, last, same]

theorem State.notNew_outOfSequence {h : CommandHeader} {o : OpenSession} (code : Byte) (s : State)
    (other : ∀ l, o.last = some l → l.sequence ≠ h.sequence) :
    s.notNew code h o = s.turnAway code h .sequenceError (bytesOf16 o.expected) := by
  cases last : o.last with
  | none => simp only [State.notNew, last, bytesOf16_eq]
  | some l => simp only [State.notNew, last, if_neg (other l last), bytesOf16_eq]

/-! ### Every row but PROBE and OPEN is checked -/

/-- A row of the catalogue other than PROBE and OPEN makes the session checks before anything of its own: what the
command itself does is in what follows for a new one (R136). -/
theorem exec_row_sessionChecked {c : CommandName} (notProbe : c ≠ .probe) (notOpen : c ≠ .openSession)
    (h : CommandHeader) (args : List Byte) :
    ∃ onNew, ∀ s, exec (c.row h args) s = agent (sessionChecked c.code h onNew) s := by
  cases c
  case probe => exact absurd rfl notProbe
  case openSession => exact absurd rfl notOpen
  all_goals exact ⟨_, fun _ => rfl⟩

theorem CommandName.code_of_ofCode {code : Byte} {c : CommandName} (named : CommandName.ofCode code = some c) :
    c.code = code := by
  simpa using List.find?_some named

/-- So does the row of every code but those of PROBE and OPEN, a code that names no command included (R136, R140). -/
theorem exec_commandRow_sessionChecked {code : Byte} (notProbe : code ≠ 0x01) (notOpen : code ≠ 0x02)
    (h : CommandHeader) (args : List Byte) :
    ∃ onNew, ∀ s, exec (commandRow code h args) s = agent (sessionChecked code h onNew) s := by
  cases named : CommandName.ofCode code with
  | none => exact ⟨_, fun s => by rw [commandRow, named]; rfl⟩
  | some c =>
    obtain rfl := CommandName.code_of_ofCode named
    have isRow : commandRow c.code h args = c.row h args := by rw [commandRow, named]
    rw [isRow]
    exact exec_row_sessionChecked (fun e => notProbe (by rw [e]; rfl)) (fun e => notOpen (by rw [e]; rfl)) h args

/-! ### The duplicate (R138) -/

/-- A duplicate queues the cached reply and reloads the liveness timer. -/
theorem frame_answerDuplicate (r : Reply) (s : State) :
    SameBut [.liveness, .replies] s (s.answerDuplicate r) :=
  (frame_loadLiveness s).trans (frame_pushReply r _)

theorem State.answerDuplicate_replies (r : Reply) (s : State) :
    (s.answerDuplicate r).sPort.replies = s.sPort.replies ++ [r] := rfl

theorem State.answerDuplicate_liveness (r : Reply) (s : State) :
    (s.answerDuplicate r).control.liveness = .running (s.now + 100000 * s.control.period) := by
  have deadline : s.livenessDeadline = s.now + 100000 * s.control.period := by
    simp [State.livenessDeadline, millis]; omega
  rw [← deadline]; rfl

/-- Settles O42, by the outcome of the checks: whatever the code, what happens is what `sessionChecked` does. -/
theorem sessionAndSequenceChecks : Obligations.SessionAndSequenceChecks := by
  intro code h args s reaches notProbe notOpen
  obtain ⟨onNew, isChecked⟩ := exec_commandRow_sessionChecked notProbe notOpen h args
  have checked : exec (commandRow code h args) s
      = .next (sessionChecked code h onNew (s.accept .station)).settle := by
    rw [isChecked, agent_reaches reaches]
  refine ⟨fun closed => ?closed, fun o opened stranger => ?stranger,
    fun o l opened fromOwner notExpected last same => ?duplicate,
    fun o opened fromOwner notExpected other => ?outOfSequence⟩
  case closed =>
    rw [sessionChecked_closed code onNew (by simpa using closed)] at checked
    exact ⟨_, checked, onlyAnswers_turnAway code h _ _ s⟩
  case stranger =>
    rw [sessionChecked_stranger code onNew (by simpa using opened) stranger, State.accept_session] at checked
    exact ⟨_, checked, onlyAnswers_turnAway code h _ _ s⟩
  case duplicate =>
    rw [sessionChecked_notNew code onNew (by simpa using opened) fromOwner notExpected,
      State.notNew_duplicate code _ last same] at checked
    have effect := (frame_answerDuplicate l.reply (s.accept .station)).trans (frame_settle _)
    refine ⟨_, checked, FrameTaken.of_effect effect (by simp) (by simp), ?_, ?_, ?_⟩
    · rw [State.settle_sPort_replies, State.answerDuplicate_replies, State.accept_sPort_replies]
    · rw [State.settle_control, State.answerDuplicate_liveness, State.accept_now, State.accept_control]
    · exact ((frame_accept .station s).trans effect).mono (by decide)
  case outOfSequence =>
    rw [sessionChecked_notNew code onNew (by simpa using opened) fromOwner notExpected,
      State.notNew_outOfSequence code _ other] at checked
    exact ⟨_, checked, onlyAnswers_turnAway code h _ _ s⟩

end Sys2Proof.Machine
end

section
/-! PROOFS. CLOSE ends the session. -/
namespace Sys2Proof.Machine

/-! ### The session ends (R123, R142) -/

/-- The session becomes CLOSED under its number, and the liveness timer DISARMED. -/
def State.closeSession (s : State) : State :=
  { s with
    session := { s.session with current := none }
    control := { s.control with liveness := .disarmed } }

theorem State.endSession_eq (s : State) : s.endSession = s.closeSession.withdrawNotice := rfl

theorem frame_closeSession (s : State) : SameBut [.session, .liveness] s s.closeSession := by
  intro p hp; cases p <;> simp_all [Part.Kept, State.closeSession, State.count]
  case link p => cases p <;> rfl

/-- What withdrawing the notice changes: a transmission only when it is the NOTICE's (R123). -/
def withdrawnParts (s : State) : List Part :=
  noticeParts ++ if s.sPort.sending = some .notice then [.stationTransmission] else []

theorem State.withdrawNotice_sending (s : State) :
    s.withdrawNotice.sPort.sending = if s.sPort.sending = some .notice then none else s.sPort.sending := rfl

/-- Withdrawing the notice leaves every other transmission under way. -/
theorem frame_withdrawNotice_sending (s : State) : SameBut (withdrawnParts s) s s.withdrawNotice := by
  by_cases sending : s.sPort.sending = some .notice
  case pos => exact (frame_withdrawNotice s).mono (by simp [withdrawnParts, noticeParts, sending])
  case neg =>
    intro p unlisted
    by_cases transmission : p = .stationTransmission
    case pos =>
      subst transmission
      exact .inr (by rw [State.withdrawNotice_sending, if_neg sending])
    case neg =>
      refine frame_withdrawNotice s p fun listed => unlisted ?_
      simpa [withdrawnParts, noticeParts, sending, transmission] using listed

theorem frame_endSession (s : State) : SameBut ([.session, .liveness] ++ withdrawnParts s) s s.endSession :=
  (frame_closeSession s).trans (frame_withdrawNotice_sending s.closeSession)

/-! ### CLOSE (R142) -/

/-- While a reply waits, the transmitter is not given a NOTICE: the arbiter takes the reply first (R173). -/
theorem StationPort.arbitrated_ne_notice {p : StationPort} (sending : p.sending ≠ some .notice)
    (waiting : p.replies ≠ []) : p.arbitrated ≠ some .notice := by
  cases idle : p.sending with
  | some x =>
    have goesOn : p.arbitrated = p.sending := by simp only [StationPort.arbitrated, idle]
    rwa [goesOn]
  | none => cases up : p.link.isUp <;> simp [StationPort.arbitrated, StationPort.choice, idle, up, waiting]

theorem exec_closeSession {h : CommandHeader} {o : OpenSession} {s : State} (new : NewCommand h o s) :
    exec (.closeSession h []) s = .next ((s.accept .station).closeFor h).settle := by
  show execClose h [] s = _
  have form : ([] : List Byte).length = CommandName.closeSession.argBytes := rfl
  rw [execClose, agent_reaches new.reaches, sessionChecked_new new, if_pos form]

theorem frame_closeFor (h : CommandHeader) (s : State) :
    SameBut ([.session, .liveness] ++ withdrawnParts s ++ [.replies]) s (s.closeFor h) :=
  (frame_endSession s).trans (frame_pushReply _ _)

section
variable (h : CommandHeader) (s : State)

theorem State.closeFor_replies :
    (s.closeFor h).sPort.replies = s.sPort.replies ++ [⟨h.source, h.tag, 0x03, h.sequence, .done, []⟩] := rfl

theorem State.closeFor_session : (s.closeFor h).session.current = none := rfl

theorem State.closeFor_liveness : (s.closeFor h).control.liveness = .disarmed := rfl

theorem State.closeFor_notice : (s.closeFor h).notice = { s.notice with state := .idle } := rfl

theorem State.closeFor_slot : (s.closeFor h).sPort.slot = none := rfl

theorem State.closeFor_sending : (s.closeFor h).sPort.sending ≠ some .notice := by
  have ended : (s.closeFor h).sPort.sending = s.closeSession.withdrawNotice.sPort.sending := rfl
  rw [ended, State.withdrawNotice_sending]
  split <;> simp_all

end

/-- Settles O41: CLOSE is `State.closeFor` on the state that has accepted its frame, and the reply it queues goes before
any NOTICE. -/
theorem closeEndsTheSession : Obligations.CloseEndsTheSession := by
  intro h o s new
  have effect := (frame_closeFor h (s.accept .station)).trans (frame_settle _)
  have withdrawn : withdrawnParts (s.accept .station) = withdrawnParts s := by simp [withdrawnParts]
  rw [withdrawn] at effect
  refine ⟨_, exec_closeSession new, FrameTaken.of_effect effect ?_ ?_, ?_, ?_, ?_, ?_, ?_, ?_, ?_⟩
  · simp [withdrawnParts, noticeParts]
  · simp [withdrawnParts, noticeParts]
  · rw [State.settle_sPort_replies, State.closeFor_replies, State.accept_sPort_replies]
  · rw [State.settle_session, State.closeFor_session]
  · rw [State.settle_control, State.closeFor_liveness]
  · rw [State.settle_notice, State.closeFor_notice, State.accept_notice]
  · rw [State.settle_sPort_slot, State.closeFor_slot]
  · rw [State.settle_sPort_sending]
    exact StationPort.arbitrated_ne_notice (State.closeFor_sending h _) (by simp [State.closeFor_replies])
  · exact ((frame_accept .station s).trans effect).mono (by grind [frameParts, withdrawnParts])

end Sys2Proof.Machine
end

section
/-! PROOFS. RESUME, and the boundary that a change of the epoch length in force takes. -/
namespace Sys2Proof.Machine

/-! ### A change of the epoch length in force (R65, R66) -/

theorem clearConsumed_getElem (ms : Vector Meter Config.meters) (m : Fin Config.meters) :
    (clearConsumed ms)[m] = { ms[m] with consumed := 0 } := by simp [clearConsumed]

theorem mem_boundaryParts {p : Part} : p ∈ boundaryParts ↔ p = .epoch ∨ ∃ m, p = .meter m := by
  simp [boundaryParts, eq_comm]

/-- A boundary while no commit is pending: a new epoch and cleared meters (R66, R75). -/
theorem State.takeBoundary_idle {s : State} (idle : s.commit.state = .idle) :
    s.takeBoundary = { s with
      epoch := { s.epoch with number := s.epoch.number + 1, offset := 0 }
      meters := clearConsumed s.meters } := by simp only [State.takeBoundary, idle]

theorem plainBoundary_takeBoundary {s : State} (idle : s.commit.state = .idle) : PlainBoundary s s.takeBoundary := by
  rw [State.takeBoundary_idle idle]
  exact ⟨rfl, clearConsumed_getElem s.meters⟩

theorem frame_takeBoundary {s : State} (idle : s.commit.state = .idle) : SameBut boundaryParts s s.takeBoundary := by
  rw [State.takeBoundary_idle idle]
  intro p unlisted
  cases p
  case epoch => exact absurd (mem_boundaryParts.2 (.inl rfl)) unlisted
  case meter m => exact absurd (mem_boundaryParts.2 (.inr ⟨m, rfl⟩)) unlisted
  case link p => cases p <;> rfl
  all_goals simp [Part.Kept, State.count]

theorem State.adoptEpochLength_adopts {s : State} (idle : s.commit.state = .idle) :
    EpochAdopts s.epochLength s s.adoptEpochLength := by
  unfold EpochAdopts State.adoptEpochLength
  split
  case isTrue => exact plainBoundary_takeBoundary idle
  case isFalse => exact ⟨rfl, fun _ => rfl⟩

theorem frame_adoptEpochLength {s : State} (idle : s.commit.state = .idle) :
    SameBut boundaryParts s s.adoptEpochLength := by
  unfold State.adoptEpochLength
  split
  case isTrue => exact frame_takeBoundary idle
  case isFalse => exact SameBut.refl _ s

/-- What comes before and after may be left out, where it changes neither the Epoch Timer nor a meter (R65). -/
theorem EpochAdopts.of_frames {length : Nat} {a b : List Part} {s u v t : State} (h : EpochAdopts length u v)
    (before : SameBut a s u) (after : SameBut b v t) (apart : ∀ p ∈ boundaryParts, p ∉ a ∧ p ∉ b) :
    EpochAdopts length s t := by
  have epochApart := apart .epoch (mem_boundaryParts.2 (.inl rfl))
  have meterApart := fun m => apart (.meter m) (mem_boundaryParts.2 (.inr ⟨m, rfl⟩))
  have epochBefore : u.epoch = s.epoch := before _ epochApart.1
  have epochAfter : t.epoch = v.epoch := after _ epochApart.2
  have metersBefore : ∀ m : Fin Config.meters, u.meters[m] = s.meters[m] := fun m => before _ (meterApart m).1
  have metersAfter : ∀ m : Fin Config.meters, t.meters[m] = v.meters[m] := fun m => after _ (meterApart m).2
  unfold EpochAdopts at h ⊢
  rw [epochBefore] at h
  split
  case isTrue reached =>
    rw [if_pos reached] at h
    exact ⟨by rw [epochAfter, h.epoch, epochBefore], fun m => by rw [metersAfter, h.meters, metersBefore]⟩
  case isFalse reached =>
    rw [if_neg reached] at h
    exact ⟨by rw [epochAfter, h.1], fun m => by rw [metersAfter, h.2, metersBefore]⟩

/-! ### A new command that leaves a new state (R137) -/

/-- What follows the execution of a new command changes the session, the liveness timer and the Reply queue alone. -/
theorem frame_answerNew (code : Byte) (h : CommandHeader) (o : OpenSession) (r : Answered) :
    SameBut [.session, .liveness, .replies] r.state (answerNew code h o r) := by
  intro p hp
  cases p
  case link p => cases p <;> rfl
  all_goals simp_all [Part.Kept, answerNew, State.count]

theorem command_answers_state {h : CommandHeader} {o : OpenSession} {s : State} {body : State → Answered}
    {result : ResultCode} {payload : List Byte} {changed : List Part} {u : State}
    (new : NewCommand h o s) (c : CommandName) (args : List Byte) (form : args.length = c.argBytes)
    (answer : body (s.accept .station) = u.answer result payload) (frame : SameBut changed (s.accept .station) u)
    (others : ∀ p ∈ [.counter (.framesAccepted .station), .link .station, .replies, .now], p ∉ changed) :
    ∃ t, command c h args body s = .next t ∧ Answers c.code h o result payload changed s t
      ∧ SameBut [.session, .liveness, .replies] u t := by
  refine ⟨_, command_new new c args body, ?_⟩
  rw [executed, if_pos form, answer]
  exact ⟨answers_of_effect new c.code (u.answer result payload) changed frame (others _ (by simp)) (others _ (by simp))
    (others _ (by simp)) (others _ (by simp)), (frame_answerNew c.code h o _).trans (frame_settle _)⟩

/-! ### RESUME (R164) -/

/-- Mode Control is given a mode. -/
def State.setMode (m : Mode) (s : State) : State := { s with control := { s.control with mode := m } }

theorem frame_setMode (m : Mode) (s : State) : SameBut [.mode] s (s.setMode m) := by
  intro p hp; cases p <;> simp_all [Part.Kept, State.setMode, State.count]
  case link p => cases p <;> rfl

/-- The MODE_CHANGE record of a return to GOVERNED with a generation of the active bank (R98, R164). -/
def resumeRecord (generation : Half) : RecordBody :=
  partRecord .modeChange (.active generation) (some (.modeChange .resume))

/-- A return to GOVERNED up to its record (R164 steps 1 and 2). -/
def State.recordResume (s : State) : State := (s.setMode .governed).logRecord (resumeRecord s.commit.generation)

theorem State.resumeGoverned_eq (s : State) : s.resumeGoverned = s.recordResume.adoptEpochLength := rfl

theorem frame_recordResume (s : State) : SameBut (.mode :: recordParts) s s.recordResume :=
  (frame_setMode .governed s).trans (frame_logRecord _ _)

section
variable {s : State} (idle : s.commit.state = .idle)
include idle

theorem State.recordResume_idle : s.recordResume.commit.state = .idle := by
  rw [State.recordResume, State.logRecord_commit]; exact idle

/-- The epoch takes the active bank's length, with no commit for the boundary to apply. -/
theorem State.resumeGoverned_adopts : EpochAdopts s.active.params.epochLength s s.resumeGoverned := by
  have adopts := State.adoptEpochLength_adopts (State.recordResume_idle idle)
  rw [State.recordResume, State.logRecord_epochLength] at adopts
  exact adopts.of_frames (frame_recordResume s) (SameBut.refl [] _) (by decide)

theorem frame_resumeGoverned : SameBut (.mode :: recordParts ++ boundaryParts) s s.resumeGoverned :=
  (frame_recordResume s).trans (frame_adoptEpochLength (State.recordResume_idle idle))

theorem State.resumeGoverned_mode : s.resumeGoverned.control.mode = .governed := by
  have kept : s.resumeGoverned.control.mode = s.recordResume.control.mode :=
    frame_adoptEpochLength (State.recordResume_idle idle) .mode (by decide)
  rw [kept, State.recordResume, State.logRecord_control]; rfl

theorem State.resumeGoverned_log :
    s.resumeGoverned.log = logAfter s.epoch s.log (resumeRecord s.commit.generation) := by
  have kept : s.resumeGoverned.log = s.recordResume.log :=
    frame_adoptEpochLength (State.recordResume_idle idle) .log (by decide)
  rw [kept, State.recordResume, State.logRecord_log]; rfl

theorem resumeBody_fallback (mode : s.control.mode = .fallback) :
    resumeBody s = s.resumeGoverned.answer .done ([0] ++ bytesOf16 s.commit.generation ++ [0]) := by
  have commit : s.resumeGoverned.commit = s.commit := frame_resumeGoverned idle .commit (by decide)
  simp only [resumeBody, mode, State.resumeGoverned_mode idle, commit, idle, bytesOf16_eq, Mode.code, CommitState.code]

end

theorem resumeBody_governed {s : State} (mode : s.control.mode = .governed) :
    resumeBody s = s.answer .notInFallback [] := by simp only [resumeBody, mode]

theorem exec_resume (h : CommandHeader) (args : List Byte) (s : State) :
    exec (.resume h args) s = command .resume h args resumeBody s := rfl

/-- Settles O47, by the mode: in FALLBACK the reply is made on the state that `State.resumeGoverned` leaves, and neither
accepting the frame nor answering it touches the mode, the log, the Epoch Timer or a meter. -/
theorem resumeReturnsToGoverned : Obligations.ResumeReturnsToGoverned := by
  intro h o s new
  refine ⟨fun mode idle => ?resumed, fun mode => ?notInFallback⟩ <;> rw [exec_resume]
  case resumed =>
    have idle' : (s.accept .station).commit.state = .idle := by rwa [State.accept_commit]
    obtain ⟨t, taken, answers, after⟩ := command_answers_state new .resume [] rfl
      (resumeBody_fallback idle' (by rwa [State.accept_control])) (frame_resumeGoverned idle') (by decide)
    have modeKept : t.control.mode = (s.accept .station).resumeGoverned.control.mode := after .mode (by decide)
    have logKept : t.log = (s.accept .station).resumeGoverned.log := after .log (by decide)
    have adopts := (State.resumeGoverned_adopts idle').of_frames (frame_accept .station s) after (by decide)
    rw [State.accept_commit] at answers
    rw [State.accept_active] at adopts
    refine ⟨t, taken, answers, ?_, ?_, adopts⟩
    · rw [modeKept, State.resumeGoverned_mode idle']
    · rw [logKept, State.resumeGoverned_log idle', State.accept_epoch, State.accept_log, State.accept_commit]; rfl
  case notInFallback => exact command_answers new rfl (resumeBody_governed (by rwa [State.accept_control]))

end Sys2Proof.Machine
end

section
/-! PROOFS. Fallback entry. -/
namespace Sys2Proof.Machine

/-! ### One hold is resolved by its default (R59) -/

/-- What the resolution of holds at fallback entry may change. -/
def resolutionParts : List Part :=
  [.holdQueue, .status .holdWaiting, .returns, .nodeQueue, .counter .answersDiscarded, .counter (.refusals .linkDown),
   .counter (.refusals .holdExpired)] ++ (List.finRange Config.entries).map .entry ++ recordParts

theorem entry_mem_resolutionParts (i : EntryIndex) : Part.entry i ∈ resolutionParts := by simp [resolutionParts]

theorem State.resolveByFallback_held {s : State} {r : HoldRef} {x : Txn} {hold : Hold}
    (held : s.entryState r.index = .held x hold) :
    s.resolveByFallback r
      = (s.removeHold r.index (holdRecord .holdExpired x (defaultCause hold.default) true)).applyDefault r.index x
        hold.default := by simp only [State.resolveByFallback, held]

theorem frame_applyDefault (i : EntryIndex) (x : Txn) (d : PassRefuse) (s : State) :
    SameBut resolutionParts s (s.applyDefault i x d) := by
  have entry := entry_mem_resolutionParts i
  cases d
  case pass =>
    refine (frame_forward i x s).mono ?_
    simp only [forwardParts, answerParts, List.mem_append, mem_loggingParts]
    grind [resolutionParts]
  case refuse =>
    refine (frame_becomeReturning i x (.refusal .holdExpired) s).mono ?_
    simp only [answerParts, List.mem_append, mem_loggingParts]
    grind [resolutionParts]

theorem frame_resolveByFallback (s : State) (r : HoldRef) : SameBut resolutionParts s (s.resolveByFallback r) := by
  cases entry : s.entryState r.index with
  | held x hold =>
    rw [State.resolveByFallback_held entry]
    refine ((frame_removeHold r.index _ s).trans (frame_applyDefault r.index x hold.default _)).mono ?_
    grind [resolutionParts, statusParts, recordParts]
  | free | queued | inFlight | returning =>
    simp only [State.resolveByFallback, entry]
    exact SameBut.refl _ s

section
variable {s : State} {r : HoldRef} {x : Txn} {hold : Hold} (held : s.entryState r.index = .held x hold)
include held

theorem passesByDefault_held : passesByDefault s r = decide (hold.default = .pass) := by
  simp only [passesByDefault, held]

theorem State.resolveByFallback_table (j : EntryIndex) :
    (s.resolveByFallback r).table[j]
      = if j = r.index then ⟨s.generation j, resolvedState s (s.entryState j)⟩ else s.table[j] := by
  by_cases same : j = r.index
  case pos =>
    subst same
    rw [State.resolveByFallback_held held, held]
    cases d : hold.default <;> simp [State.applyDefault, resolvedState, d]
  case neg =>
    rw [State.resolveByFallback_held held]
    cases hold.default <;> simp [State.applyDefault, same]

theorem State.resolveByFallback_holdQueue :
    (s.resolveByFallback r).holdQueue = s.holdQueue.filter fun q => q.index ≠ r.index := by
  simp [State.resolveByFallback_held held]

theorem State.resolveByFallback_isSet_holdWaiting :
    (s.resolveByFallback r).events.isSet .holdWaiting = !(s.resolveByFallback r).holdQueue.isEmpty := by
  rw [State.resolveByFallback_holdQueue held, State.resolveByFallback_held held]
  cases hold.default <;> simp [State.applyDefault, State.forward_isSet, State.becomeReturning_isSet]

theorem State.resolveByFallback_nodeQueue :
    (s.resolveByFallback r).nPort.queue
      = s.nPort.queue ++ ([r].filter (forwardedByDefault s)).map (·.index) := by
  rw [State.resolveByFallback_held held]
  cases d : hold.default <;> cases up : s.nPort.link.isUp <;>
    simp [State.applyDefault, forwardedByDefault, passesByDefault_held held, d, up]

theorem State.resolveByFallback_returns :
    (s.resolveByFallback r).sPort.returns = s.sPort.returns
      ++ (if s.sPort.link.isUp then ([r].filter fun q => !forwardedByDefault s q).map (·.index) else []) := by
  rw [State.resolveByFallback_held held]
  cases d : hold.default <;> cases up : s.nPort.link.isUp <;> cases station : s.sPort.link.isUp <;>
    simp [State.applyDefault, forwardedByDefault, passesByDefault_held held, d, up, station]

theorem State.resolveByFallback_expired :
    (s.resolveByFallback r).count (.refusals .holdExpired) = s.count (.refusals .holdExpired)
      + BitVec.ofNat 32 ([r].countP fun q => !passesByDefault s q) := by
  rw [State.resolveByFallback_held held]
  cases d : hold.default <;> simp [State.applyDefault, passesByDefault_held held, d]

theorem State.resolveByFallback_linkDown :
    (s.resolveByFallback r).count (.refusals .linkDown) = s.count (.refusals .linkDown)
      + BitVec.ofNat 32 (if s.nPort.link.isUp then 0 else [r].countP (passesByDefault s)) := by
  rw [State.resolveByFallback_held held]
  cases d : hold.default <;> cases up : s.nPort.link.isUp <;>
    simp [State.applyDefault, passesByDefault_held held, d, up]

theorem State.resolveByFallback_discarded :
    (s.resolveByFallback r).count .answersDiscarded = s.count .answersDiscarded
      + BitVec.ofNat 32 (if s.sPort.link.isUp then 0 else [r].countP fun q => !forwardedByDefault s q) := by
  rw [State.resolveByFallback_held held]
  cases d : hold.default <;> cases up : s.nPort.link.isUp <;> cases station : s.sPort.link.isUp <;>
    simp [State.applyDefault, forwardedByDefault, passesByDefault_held held, d, up, station]

theorem State.resolveByFallback_log :
    (s.resolveByFallback r).log = logAfterAll s.epoch s.log (resolutionRecords s r) := by
  rw [State.resolveByFallback_held held]
  cases d : hold.default <;>
    simp [State.applyDefault, resolutionRecords, held, d, defaultCause, forwardRecords, completionRecords_holdExpired]

theorem State.resolveByFallback_sending : (s.resolveByFallback r).sPort.sending = s.sPort.sending := by
  rw [State.resolveByFallback_held held]
  simp

end

/-! ### The holds are resolved one after another (R160 step 3) -/

/-- The holds of a list have been resolved by their defaults, in its order (R59). -/
structure HoldsResolved (l : List HoldRef) (s t : State) : Prop where
  entries : ∀ i : EntryIndex, t.table[i]
    = if i ∈ l.map (·.index) then ⟨s.generation i, resolvedState s (s.entryState i)⟩ else s.table[i]
  holdQueue : t.holdQueue = s.holdQueue.filter fun r => r.index ∉ l.map (·.index)
  holdWaiting : s.events.isSet .holdWaiting = !s.holdQueue.isEmpty → t.events.isSet .holdWaiting = !t.holdQueue.isEmpty
  nodeQueue : t.nPort.queue = s.nPort.queue ++ (l.filter (forwardedByDefault s)).map (·.index)
  returns : t.sPort.returns = s.sPort.returns
    ++ (if s.sPort.link.isUp then (l.filter fun r => !forwardedByDefault s r).map (·.index) else [])
  expired : t.count (.refusals .holdExpired)
    = s.count (.refusals .holdExpired) + BitVec.ofNat 32 (l.countP fun r => !passesByDefault s r)
  linkDown : t.count (.refusals .linkDown) = s.count (.refusals .linkDown)
    + BitVec.ofNat 32 (if s.nPort.link.isUp then 0 else l.countP (passesByDefault s))
  discarded : t.count .answersDiscarded = s.count .answersDiscarded
    + BitVec.ofNat 32 (if s.sPort.link.isUp then 0 else l.countP fun r => !forwardedByDefault s r)
  log : t.log = logAfterAll s.epoch s.log (l.flatMap (resolutionRecords s))
  sending : t.sPort.sending = s.sPort.sending
  rest : SameBut resolutionParts s t

theorem holdsResolved_nil (s : State) : HoldsResolved [] s s := by
  constructor
  case holdQueue => exact (List.filter_eq_self.2 fun r _ => by simp).symm
  case rest => exact SameBut.refl _ s
  all_goals simp

section
variable {l : List HoldRef} {s t : State} {r : HoldRef}

theorem HoldsResolved.sPort_link (h : HoldsResolved l s t) : t.sPort.link = s.sPort.link :=
  h.rest (.link .station) (by decide)

theorem HoldsResolved.nPort_link (h : HoldsResolved l s t) : t.nPort.link = s.nPort.link :=
  h.rest (.link .node) (by decide)

theorem HoldsResolved.epoch (h : HoldsResolved l s t) : t.epoch = s.epoch := h.rest .epoch (by decide)

theorem HoldsResolved.resolvedState_eq (h : HoldsResolved l s t) : resolvedState t = resolvedState s := by
  funext entry
  simp only [resolvedState, h.nPort_link, h.sPort_link]

/-- A hold still waiting is not touched by the resolution of those before it; with the next three lemmas, what is done
for it does not depend on them. -/
theorem HoldsResolved.waiting (h : HoldsResolved l s t) (fresh : r.index ∉ l.map (·.index)) :
    t.table[r.index] = s.table[r.index] := (h.entries r.index).trans (if_neg fresh)

theorem HoldsResolved.passesByDefault_eq (h : HoldsResolved l s t) (fresh : r.index ∉ l.map (·.index)) :
    passesByDefault t r = passesByDefault s r := by
  simp only [passesByDefault, State.entryState, h.waiting fresh]

theorem HoldsResolved.forwardedByDefault_eq (h : HoldsResolved l s t) (fresh : r.index ∉ l.map (·.index)) :
    forwardedByDefault t r = forwardedByDefault s r := by
  simp only [forwardedByDefault, h.passesByDefault_eq fresh, h.nPort_link]

theorem HoldsResolved.resolutionRecords_eq (h : HoldsResolved l s t) (fresh : r.index ∉ l.map (·.index)) :
    resolutionRecords t r = resolutionRecords s r := by
  simp only [resolutionRecords, State.entryState, h.waiting fresh, forwardRecords, h.nPort_link]

/-- The resolution of a further hold. -/
theorem HoldsResolved.step {x : Txn} {hold : Hold} (h : HoldsResolved l s t)
    (held : s.entryState r.index = .held x hold) (fresh : r.index ∉ l.map (·.index)) :
    HoldsResolved (l ++ [r]) s (t.resolveByFallback r) := by
  have entry : t.table[r.index] = s.table[r.index] := h.waiting fresh
  have heldNow : t.entryState r.index = .held x hold := (congrArg Entry.state entry).trans held
  have passes := h.passesByDefault_eq fresh
  have forwarded := h.forwardedByDefault_eq fresh
  constructor
  case entries =>
    intro i
    rw [State.resolveByFallback_table heldNow, h.entries]
    by_cases same : i = r.index
    case pos =>
      subst same
      simp only [State.generation, State.entryState, entry, h.resolvedState_eq]
      simp
    case neg => simp [same]
  case holdQueue =>
    rw [State.resolveByFallback_holdQueue heldNow, h.holdQueue, List.filter_filter]
    refine List.filter_congr fun q _ => ?_
    simp [and_comm]
  case holdWaiting => exact fun _ => State.resolveByFallback_isSet_holdWaiting heldNow
  case nodeQueue => simp [State.resolveByFallback_nodeQueue heldNow, h.nodeQueue, List.filter_cons, forwarded]
  case returns =>
    rw [State.resolveByFallback_returns heldNow, h.returns, h.sPort_link]
    split <;> simp [List.filter_cons, forwarded]
  case expired =>
    simp [State.resolveByFallback_expired heldNow, h.expired, passes, BitVec.ofNat_add, BitVec.add_assoc]
  case linkDown =>
    rw [State.resolveByFallback_linkDown heldNow, h.linkDown, h.nPort_link]
    split <;> simp [passes, BitVec.ofNat_add, BitVec.add_assoc]
  case discarded =>
    rw [State.resolveByFallback_discarded heldNow, h.discarded, h.sPort_link]
    split <;> simp [forwarded, BitVec.ofNat_add, BitVec.add_assoc]
  case log =>
    rw [State.resolveByFallback_log heldNow, h.log, h.epoch, h.resolutionRecords_eq fresh, List.flatMap_append,
      logAfterAll_append, List.flatMap_singleton]
  case sending => rw [State.resolveByFallback_sending heldNow, h.sending]
  case rest => exact (h.rest.trans (frame_resolveByFallback t r)).mono (by simp)

end

/-- With some holds resolved, the others are resolved after them. -/
theorem HoldsResolved.foldl {s : State} (l : List HoldRef) :
    ∀ {before : List HoldRef} {t : State}, HoldsResolved before s t → ((before ++ l).map (·.index)).Nodup →
      (∀ r ∈ l, ∃ x hold, s.entryState r.index = .held x hold) →
      HoldsResolved (before ++ l) s (l.foldl State.resolveByFallback t) := by
  induction l with
  | nil => intro before t h _ _; rwa [List.append_nil]
  | cons r l ih =>
    intro before t h once held
    obtain ⟨heldFirst, heldRest⟩ := List.forall_mem_cons.1 held
    obtain ⟨x, hold, heldFirst⟩ := heldFirst
    have fresh : r.index ∉ before.map (·.index) := by
      rw [List.map_append, List.nodup_append] at once
      obtain ⟨-, -, apart⟩ := once
      exact fun again => apart _ again _ (List.mem_map_of_mem List.mem_cons_self) rfl
    rw [List.append_cons] at once ⊢
    exact ih (h.step heldFirst fresh) once heldRest

theorem holdsResolved_foldl (l : List HoldRef) {s : State} (once : (l.map (·.index)).Nodup)
    (held : ∀ r ∈ l, ∃ x hold, s.entryState r.index = .held x hold) :
    HoldsResolved l s (l.foldl State.resolveByFallback s) := (holdsResolved_nil s).foldl l once held

/-! ### Fallback entry up to the resolution of the holds (R160 steps 1 to 3) -/

/-- The mode is FALLBACK and a pending commit is cancelled (R90). -/
def State.leaveGoverned (s : State) : State :=
  { s.setMode .fallback with
    commit := { s.commit with state := .idle }
    counters := if s.commit.state = .pending then (s.bump .commitsCancelled).counters else s.counters }

theorem State.cancelCommit_setMode (s : State) : (s.setMode .fallback).cancelCommit = s.leaveGoverned := by
  cases state : s.commit.state with
  | idle =>
    have same : { s.commit with state := .idle } = s.commit := by rw [← state]
    simp [State.cancelCommit, State.leaveGoverned, State.setMode, state, same]
  | pending => simp [State.cancelCommit, State.leaveGoverned, State.setMode, state, State.bumpBy]

theorem State.leaveGoverned_count (s : State) (c : Counter) : s.leaveGoverned.count c
    = if c = .commitsCancelled ∧ s.commit.state = .pending then s.count c + 1 else s.count c := by
  have counters : s.leaveGoverned.count c
      = if s.commit.state = .pending then (s.bump .commitsCancelled).count c else s.count c := by
    simp only [State.count, State.leaveGoverned]
    split <;> rfl
  rw [counters, State.bump_eq, State.bumpBy_count]
  cases s.commit.state <;> by_cases counter : c = .commitsCancelled <;> simp [counter]

theorem frame_leaveGoverned (s : State) :
    SameBut [.mode, .commit, .counter .commitsCancelled] s s.leaveGoverned := by
  intro p unlisted
  cases p
  case counter c =>
    have other : c ≠ .commitsCancelled := by simpa using unlisted
    simp [Part.Kept, State.leaveGoverned_count, other]
  case nextGroup =>
    simp only [Part.Kept, State.leaveGoverned]
    split <;> simp
  case link p => cases p <;> rfl
  all_goals simp_all [Part.Kept, State.leaveGoverned, State.setMode]

/-- By the law of the queues the holds resolved are all the entries held (R46). -/
theorem QueueLaw.holdsResolved {s : State} (law : QueueLaw s) :
    HoldsResolved s.holdQueue s.leaveGoverned (s.holdQueue.foldl State.resolveByFallback s.leaveGoverned) :=
  holdsResolved_foldl s.holdQueue law.holdsOnce fun r waiting => ((law.holds r).1 waiting).1

/-- An entry that waits in no hold is the same after every hold is resolved (R46, R59). -/
theorem QueueLaw.resolved_of_not_waiting {s : State} (law : QueueLaw s) {i : EntryIndex}
    (notWaiting : i ∉ s.holdQueue.map (·.index)) : resolvedState s (s.entryState i) = s.entryState i := by
  cases entry : s.entryState i with
  | held x hold =>
    have waiting : ⟨i, s.generation i⟩ ∈ s.holdQueue := (law.holds _).2 ⟨⟨x, hold, entry⟩, rfl⟩
    exact absurd (List.mem_map_of_mem waiting) notWaiting
  | free | queued | inFlight | returning => rfl

/-! ### The record of the entry (R160 steps 4 to 6) -/

/-- The MODE_CHANGE record of a fallback entry (R98). -/
def fallbackEntryRecord (cause : FallbackCause) : RecordBody :=
  partRecord .modeChange .fallback (some (.modeChange cause.modeCause))

/-- The fallback record is replaced. -/
def State.setFallbackRecord (f : FallbackRecord) (s : State) : State :=
  { s with control := { s.control with fallbackRecord := f } }

theorem frame_setFallbackRecord (f : FallbackRecord) (s : State) :
    SameBut [.fallbackRecord] s (s.setFallbackRecord f) := by
  intro p hp; cases p <;> simp_all [Part.Kept, State.setFallbackRecord, State.count]
  case link p => cases p <;> rfl

/-- The fallback record, the status and the log take note of a fallback entry. -/
def State.noteFallback (cause : FallbackCause) (s : State) : State :=
  ((s.setFallbackRecord (s.nextFallbackRecord cause)).setStatus .fallbackEntered).logRecord (fallbackEntryRecord cause)

/-- What noting a fallback entry changes. -/
def noteFallbackParts : List Part := .fallbackRecord :: statusParts .fallbackEntered ++ recordParts

section
variable (cause : FallbackCause) (s : State)

theorem frame_noteFallback : SameBut noteFallbackParts s (s.noteFallback cause) :=
  ((frame_setFallbackRecord _ s).trans (frame_setStatus .fallbackEntered _)).trans (frame_logRecord _ _)

theorem State.noteFallback_fallbackRecord :
    (s.noteFallback cause).control.fallbackRecord = s.nextFallbackRecord cause := by
  simp [State.noteFallback, State.setFallbackRecord]

theorem State.noteFallback_isSet_fallbackEntered :
    (s.noteFallback cause).events.isSet .fallbackEntered = true := by simp [State.noteFallback]

theorem State.noteFallback_log :
    (s.noteFallback cause).log = logAfter s.epoch s.log (fallbackEntryRecord cause) := by
  simp [State.noteFallback, State.setFallbackRecord]

theorem State.noteFallback_sending : (s.noteFallback cause).sPort.sending = s.sPort.sending := by
  simp [State.noteFallback, State.setFallbackRecord]

end

/-! ### Fallback entry (R160) -/

theorem State.fallbackSteps_eq (cause : FallbackCause) (s : State) :
    s.fallbackSteps cause = State.adoptEpochLength
      ((s.holdQueue.foldl State.resolveByFallback s.leaveGoverned).noteFallback cause) := by
  rw [State.fallbackSteps, ← State.setMode, State.cancelCommit_setMode]; rfl

theorem State.adoptEpochLength_sending {s : State} (idle : s.commit.state = .idle) :
    s.adoptEpochLength.sPort.sending = s.sPort.sending := by
  unfold State.adoptEpochLength
  split
  case isTrue => rw [State.takeBoundary_idle idle]
  case isFalse => rfl

/-- Resolving every hold of the queue leaves none waiting. -/
theorem HoldsResolved.none_left {s u v : State} (h : HoldsResolved s.holdQueue u v) (same : u.holdQueue = s.holdQueue) :
    v.holdQueue = [] := by
  rw [h.holdQueue, same, List.filter_eq_nil_iff]
  exact fun r waiting => by simpa using ⟨r, waiting, rfl⟩

section
variable {s : State} (law : QueueLaw s) (cause : FallbackCause)
include law

/-- The steps end with the epoch length, on a state in FALLBACK with every hold resolved, the entry noted and no commit
pending. -/
theorem QueueLaw.exists_fallbackSteps_eq : ∃ v : State, HoldsResolved s.holdQueue s.leaveGoverned v
    ∧ s.fallbackSteps cause = (v.noteFallback cause).adoptEpochLength
    ∧ (v.noteFallback cause).commit.state = .idle ∧ (v.noteFallback cause).control.mode = .fallback := by
  have resolved := law.holdsResolved
  have before := resolved.rest.trans (frame_noteFallback cause _)
  refine ⟨_, resolved, State.fallbackSteps_eq cause s, ?_, ?_⟩
  · have commit := before .commit (by decide)
    exact congrArg CommitControl.state commit
  · exact before .mode (by decide)

theorem frame_fallbackSteps : SameBut fallbackParts s (s.fallbackSteps cause) := by
  obtain ⟨v, resolved, steps, idle, -⟩ := law.exists_fallbackSteps_eq cause
  rw [steps]
  refine ((((frame_leaveGoverned s).trans resolved.rest).trans (frame_noteFallback cause v)).trans
    (frame_adoptEpochLength idle)).mono ?_
  decide

theorem State.fallbackSteps_sending : (s.fallbackSteps cause).sPort.sending = s.sPort.sending := by
  obtain ⟨v, resolved, steps, idle, -⟩ := law.exists_fallbackSteps_eq cause
  rw [steps, State.adoptEpochLength_sending idle, State.noteFallback_sending, resolved.sending]
  rfl

/-- Whatever follows the steps of a fallback entry and changes at most the notice sender and its slot, the entry is as
R160 says. -/
theorem fellBack_of_frame {t : State} (after : SameBut noticeParts (s.fallbackSteps cause) t) : FellBack cause s t := by
  obtain ⟨v, resolved, steps, idle, mode⟩ := law.exists_fallbackSteps_eq cause
  have noted := frame_noteFallback cause v
  have last : SameBut (boundaryParts ++ noticeParts) (v.noteFallback cause) t :=
    (steps ▸ frame_adoptEpochLength idle).trans after
  have fromHolds := noted.trans last
  have fromStart := resolved.rest.trans fromHolds
  constructor
  case mode => exact fromStart .mode (by decide)
  case commit => exact fromStart .commit (by decide)
  case cancelled =>
    have kept : t.count .commitsCancelled = s.leaveGoverned.count .commitsCancelled :=
      fromStart (.counter .commitsCancelled) (by decide)
    rw [kept, State.leaveGoverned_count]; simp
  case noHolds =>
    have kept : t.holdQueue = v.holdQueue := fromHolds .holdQueue (by decide)
    rw [kept, resolved.none_left rfl]
  case holdWaiting =>
    have kept : t.events.isSet .holdWaiting = v.events.isSet .holdWaiting := fromHolds (.status _) (by decide)
    rw [kept, resolved.holdWaiting law.holdWaiting, resolved.none_left rfl]; rfl
  case entries =>
    intro i
    have kept : t.table[i] = v.table[i] := fromHolds (.entry i)
      (by simp [noteFallbackParts, statusParts, recordParts, noticeParts, boundaryParts])
    rw [kept, resolved.entries]
    split
    case isTrue => rfl
    case isFalse notWaiting => rw [law.resolved_of_not_waiting notWaiting]; rfl
  case nodeQueue => exact (fromHolds .nodeQueue (by decide)).trans resolved.nodeQueue
  case returns => exact (fromHolds .returns (by decide)).trans resolved.returns
  case expired =>
    have kept : t.count (.refusals .holdExpired) = v.count (.refusals .holdExpired) :=
      fromHolds (.counter _) (by decide)
    rw [kept, resolved.expired, State.leaveGoverned_count]; rfl
  case linkDown =>
    have kept : t.count (.refusals .linkDown) = v.count (.refusals .linkDown) := fromHolds (.counter _) (by decide)
    rw [kept, resolved.linkDown, State.leaveGoverned_count]; rfl
  case discarded =>
    have kept : t.count .answersDiscarded = v.count .answersDiscarded := fromHolds (.counter _) (by decide)
    rw [kept, resolved.discarded, State.leaveGoverned_count]; rfl
  case record =>
    have kept : t.control.fallbackRecord = (v.noteFallback cause).control.fallbackRecord :=
      last .fallbackRecord (by decide)
    have record : v.control.fallbackRecord = s.control.fallbackRecord := resolved.rest .fallbackRecord (by decide)
    rw [kept, State.noteFallback_fallbackRecord, State.nextFallbackRecord, record, resolved.epoch]; rfl
  case alerted =>
    have kept : t.events.isSet .fallbackEntered = (v.noteFallback cause).events.isSet .fallbackEntered :=
      last (.status _) (by decide)
    rw [kept, State.noteFallback_isSet_fallbackEntered]
  case log =>
    have kept : t.log = (v.noteFallback cause).log := last .log (by decide)
    rw [kept, State.noteFallback_log, resolved.log, resolved.epoch, logAfterAll_append]; rfl
  case adopts =>
    have adopts := State.adoptEpochLength_adopts idle
    rw [State.epochLength, mode, ← steps] at adopts
    exact adopts.of_frames (((frame_leaveGoverned s).trans resolved.rest).trans noted) after (by decide)

end

theorem State.evalNotice_closed {s : State} (closed : s.session.current = none) : s.evalNotice = s := by
  simp only [State.evalNotice, State.noticeDue, closed]

/-- With no session open, no notice is made when the entry is complete (R117). -/
theorem State.enterFallback_closed {s : State} (law : QueueLaw s) (cause : FallbackCause)
    (closed : s.session.current = none) :
    s.enterFallback cause = (s.fallbackSteps cause).setSender s.notice s.sPort.slot := by
  have kept : (s.fallbackSteps cause).session.current = s.session.current :=
    frame_fallbackSteps law cause .session (by decide)
  exact State.evalNotice_closed (by rw [State.setSender_session, kept, closed])

end Sys2Proof.Machine
end

section
/-! PROOFS. The expiries of the liveness timer. -/
namespace Sys2Proof.Machine

/-! ### The session lost (R158) -/

/-- The loss of the session touches nothing that the law of the queues speaks of. -/
theorem QueueLaw.endSession {s : State} (law : QueueLaw s) : QueueLaw s.endSession :=
  ⟨law.holdsOnce, law.holds, law.holdRoom, law.holdWaiting, law.queuedOnce, law.queued, law.returnsOnce, law.returns,
    law.fallback⟩

/-- A fallback entry reads nothing that the loss of the session has changed. -/
theorem FellBack.of_endSession {cause : FallbackCause} {s t : State} (h : FellBack cause s.endSession t) :
    FellBack cause s t :=
  ⟨h.mode, h.commit, h.cancelled, h.noHolds, h.holdWaiting, h.entries, h.nodeQueue, h.returns, h.expired, h.linkDown,
    h.discarded, h.record, h.alerted, h.log,
    h.adopts.of_frames ((frame_closeSession s).trans (frame_withdrawNotice _)) (SameBut.refl [] t) (by decide)⟩

theorem State.endSession_sending (s : State) : s.endSession.sPort.sending ≠ some .notice := by
  rw [State.endSession_eq, State.withdrawNotice_sending]
  split <;> simp_all

/-- With an empty Notice slot, the arbiter takes no NOTICE (R173). -/
theorem StationPort.choice_ne_notice {p : StationPort} (empty : p.slot = none) : p.choice ≠ some .notice := by
  simp only [StationPort.choice, empty]
  (repeat' split) <;> simp_all

/-- With an empty Notice slot, the transmitter is not given a NOTICE (R173). -/
theorem StationPort.arbitrated_ne_notice_of_slot {p : StationPort} (sending : p.sending ≠ some .notice)
    (empty : p.slot = none) : p.arbitrated ≠ some .notice := by
  cases idle : p.sending with
  | some x =>
    have goesOn : p.arbitrated = p.sending := by simp only [StationPort.arbitrated, idle]
    rwa [goesOn]
  | none =>
    simp only [StationPort.arbitrated, idle]
    split
    case isTrue => exact StationPort.choice_ne_notice empty
    case isFalse => simp

theorem State.loseSession_fallback {s : State} (mode : s.control.mode = .fallback) : s.loseSession = s.endSession := by
  have kept : s.endSession.control.mode = .fallback := mode
  simp only [State.loseSession, kept]

theorem State.loseSession_governed {s : State} (mode : s.control.mode = .governed) :
    s.loseSession = s.endSession.enterFallback .liveness := by
  have kept : s.endSession.control.mode = .governed := mode
  simp only [State.loseSession, kept]

/-! ### The liveness timer expires (R157, R158) -/

theorem State.livenessDeadline_eq (s : State) : s.livenessDeadline = s.now + 100000 * s.control.period := by
  simp [State.livenessDeadline, millis]; omega

/-- The liveness timer is given a state. -/
def State.setLiveness (l : LivenessState) (s : State) : State := { s with control := { s.control with liveness := l } }

theorem frame_setLiveness (l : LivenessState) (s : State) : SameBut [.liveness] s (s.setLiveness l) := by
  intro p hp; cases p <;> simp_all [Part.Kept, State.setLiveness, State.count]
  case link p => cases p <;> rfl

theorem State.warnLiveness_eq (s : State) :
    s.warnLiveness = (s.setLiveness (.warned (s.now + 100000 * s.control.period))).setStatus .livenessWarning := by
  rw [← State.livenessDeadline_eq]; rfl

section
variable {s : State} {d : Nat} (notHeld : s.heldInReset = false)
include notHeld

theorem exec_livenessExpiry_running (running : s.control.liveness = .running d) :
    exec .livenessExpiry s = .next s.warnLiveness.settle := by
  have expires : exec .livenessExpiry s = .next s.expireLiveness.settle := taken_running notHeld _
  simpa only [State.expireLiveness, running] using expires

theorem exec_livenessExpiry_warned (warned : s.control.liveness = .warned d) :
    exec .livenessExpiry s = .next s.loseSession.settle := by
  have expires : exec .livenessExpiry s = .next s.expireLiveness.settle := taken_running notHeld _
  simpa only [State.expireLiveness, warned] using expires

end

/-- Settles O45, by the timer's state and the mode: a warning, the session's end alone, or the session's end followed by
fallback entry, which with no session open makes no notice. -/
theorem livenessExpires : Obligations.LivenessExpires := by
  intro s notHeld
  refine ⟨fun d running => ?warning, fun d warned law => ⟨fun mode => ?alone, fun mode => ?entering⟩⟩
  case warning =>
    refine ⟨_, exec_livenessExpiry_running notHeld running, ?_⟩
    rw [State.warnLiveness_eq]
    refine ⟨?_, ?_, ?_⟩
    · rw [State.settle_control, State.setStatus_control]; rfl
    · simp
    · exact ((frame_setLiveness _ s).trans (frame_setStatus .livenessWarning _)).trans (frame_settle _)
  case alone =>
    refine ⟨_, exec_livenessExpiry_warned notHeld warned, ?_⟩
    rw [State.loseSession_fallback mode]
    refine ⟨⟨rfl, rfl, rfl, rfl, ?_⟩, ?_⟩
    · exact StationPort.arbitrated_ne_notice_of_slot (State.endSession_sending s) rfl
    · exact ((frame_endSession s).trans (frame_settle _)).mono (by simp [withdrawnParts])
  case entering =>
    have lost := law.endSession
    have entered := frame_fallbackSteps lost .liveness
    have closing := frame_setSender s.endSession.notice s.endSession.sPort.slot (s.endSession.fallbackSteps .liveness)
    have sending := State.fallbackSteps_sending lost .liveness
    refine ⟨_, exec_livenessExpiry_warned notHeld warned, ?_⟩
    rw [State.loseSession_governed mode, State.enterFallback_closed lost .liveness rfl]
    refine ⟨⟨entered .session (by decide), entered .liveness (by decide), rfl, rfl, ?_⟩, ?_, ?_⟩
    · refine StationPort.arbitrated_ne_notice_of_slot ?_ rfl
      rw [State.setSender_sPort_sending, sending]
      exact State.endSession_sending s
    · exact (fellBack_of_frame lost .liveness (closing.trans (frame_settle _))).of_endSession
    · refine (((frame_endSession s).trans entered).trans (closing.trans (frame_settle _))).mono ?_
      simp only [withdrawnParts, fallbackParts, recordParts, List.mem_append]
      grind

end Sys2Proof.Machine
end

section
/-! PROOFS. Rule records: a legal rule reads back, and a record that passes its checks spells a legal rule. -/
namespace Sys2Proof.Machine

/-! ### Numbers in bytes read back -/

@[simp] theorem spelled_append (bytes : List Byte) (b : Byte) :
    spelled (bytes ++ [b]) = spelled bytes * 256 + b.toNat := by
  simp [spelled]

/-- The last byte of a number is its low one. -/
theorem bigEndian_append (n x : Nat) : bigEndian (n + 1) x = bigEndian n (x / 256) ++ [BitVec.ofNat 8 x] := by
  induction n with
  | zero => simp
  | succ n ih =>
    rw [bigEndian_succ, ih, bigEndian_succ, List.cons_append, Nat.div_div_eq_div_mul, Nat.pow_succ']

theorem spelled_bigEndian (n x : Nat) : spelled (bigEndian n x) = x % 256 ^ n := by
  induction n generalizing x with
  | zero => simp [spelled, Nat.mod_one]
  | succ n ih =>
    rw [bigEndian_append, spelled_append, ih, Nat.pow_succ', Nat.mod_mul, BitVec.toNat_ofNat]
    omega

@[simp] theorem bigEndian_length (n x : Nat) : (bigEndian n x).length = n := by
  induction n with
  | zero => rfl
  | succ n ih => simp [ih]

theorem spelled_one (x : Nat) : spelled [BitVec.ofNat 8 x] = x % 256 := by
  simpa using spelled_bigEndian 1 x

theorem spelled_two (x : Nat) : spelled [BitVec.ofNat 8 (x / 256), BitVec.ofNat 8 x] = x % 65536 := by
  simpa using spelled_bigEndian 2 x

theorem spelled_half (x : Half) : spelled [BitVec.ofNat 8 (x.toNat / 256), BitVec.setWidth 8 x] = x.toNat := by
  have bytes := spelled_two x.toNat
  rw [Nat.mod_eq_of_lt x.isLt] at bytes
  simpa using bytes

theorem spelled_three (x : Nat) :
    spelled [BitVec.ofNat 8 (x / 65536), BitVec.ofNat 8 (x / 256), BitVec.ofNat 8 x] = x % 16777216 := by
  simpa using spelled_bigEndian 3 x

/-- Induction along a list from its end: a number is spelled with its low byte last (the modules import core Lean only). -/
theorem list_induction_last {α : Type} {motive : List α → Prop} (nil : motive [])
    (last : ∀ init x, motive init → motive (init ++ [x])) (l : List α) : motive l := by
  rw [← l.reverse_reverse]
  induction l.reverse with
  | nil => exact nil
  | cons x init ih => exact List.reverse_cons ▸ last _ x ih

theorem spelled_lt (bytes : List Byte) : spelled bytes < 256 ^ bytes.length := by
  induction bytes using list_induction_last with
  | nil => simp [spelled]
  | last bytes b ih =>
    rw [spelled_append, List.length_append, List.length_singleton, Nat.pow_succ']
    have := b.isLt
    omega

theorem field_lt (args : List Byte) (place n : Nat) : field args place n < 256 ^ n :=
  Nat.lt_of_lt_of_le (spelled_lt _) (Nat.pow_le_pow_right (by decide) (List.length_take_le ..))

/-! ### A rule's record, byte by byte (R189) -/

/-- What a rule's record holds, field by field. -/
def ruleRecordOf (r : Rule) : RuleRecord where
  presence := r.presence
  nodeLow := r.selector.nodeLow
  nodeHigh := r.selector.nodeHigh
  operations := r.selector.operations.byte
  registerLow := r.selector.registerLow
  registerHigh := r.selector.registerHigh
  stationCount := (r.selector.stations.getD []).length
  stationBytes := padded 4 (r.selector.stations.getD [])
  openOffset := (r.window.getD ⟨0, 0⟩).openOffset
  closeOffset := (r.window.getD ⟨0, 0⟩).closeOffset
  action := r.action.code
  meter := match r.action with
    | .meter m => BitVec.ofNat 8 m.val
    | _ => 0
  holdLimit := match r.action with
    | .hold limit _ => limit
    | _ => 0
  holdDefault := match r.action with
    | .hold _ d => d.code
    | _ => 0
  logLevel := r.logLevel.code

theorem padded_length (n : Nat) (bytes : List Byte) : (padded n bytes).length = n := by simp [padded]

theorem padded_take (bytes : List Byte) {n : Nat} (short : bytes.length ≤ n) :
    (padded n bytes).take bytes.length = bytes := by
  simp [padded, List.take_take, Nat.min_eq_left short]

theorem ruleBytes_length (r : Rule) : (ruleBytes r).length = 25 := by
  cases h : r.action <;> simp [ruleBytes, h, padded_length]

/-- Four bytes are their four places. -/
theorem eq_four {bytes : List Byte} (four : bytes.length = 4) : ∃ a b c d, bytes = [a, b, c, d] := by
  match bytes, four with
  | [a, b, c, d], _ => exact ⟨a, b, c, d, rfl⟩

section
variable {r : Rule} (legal : r.Legal)
include legal

theorem Rule.Legal.stations_length : (r.selector.stations.getD []).length ≤ 4 := by
  cases h : r.selector.stations with
  | none => simp
  | some l => exact (legal.selector.stations l h).2.1

theorem Rule.Legal.window_offsets :
    (r.window.getD ⟨0, 0⟩).openOffset ≤ 999999 ∧ (r.window.getD ⟨0, 0⟩).closeOffset ≤ 999999 := by
  cases h : r.window with
  | none => simp
  | some w => exact ⟨(legal.window w h).1, (legal.window w h).2.1⟩

/-- The bytes of a legal rule's record are read as its fields. -/
theorem readRuleRecord_ruleBytes : readRuleRecord (ruleBytes r) = ruleRecordOf r := by
  obtain ⟨a, b, c, d, stationBytes⟩ := eq_four (padded_length 4 (r.selector.stations.getD []))
  have count := legal.stations_length
  obtain ⟨opening, closing⟩ := legal.window_offsets
  have bytes := congrArg readRuleRecord (show ruleBytes r = _ by rw [ruleBytes, stationBytes])
  rw [bytes]
  have zeros : spelled [0#8, 0#8] = 0 := rfl
  cases action : r.action
  case hold limit default =>
    have short := (legal.hold limit default action).2
    simp [readRuleRecord, ruleRecordOf, byteAt, field, action, stationBytes, spelled_one, spelled_two, spelled_three,
      spelled_half]
    omega
  all_goals
    simp [readRuleRecord, ruleRecordOf, byteAt, field, action, stationBytes, spelled_one, spelled_three, spelled_half,
      zeros]
    omega

end

/-! ### The fields read back (R189) -/

theorem OperationSet.byte_bits (o : OperationSet) :
    (⟨o.byte.getLsbD 0, o.byte.getLsbD 1, o.byte.getLsbD 2⟩ : OperationSet) = o := by
  obtain ⟨read, write, exec⟩ := o
  cases read <;> cases write <;> cases exec <;> rfl

theorem Rule.presence_window (r : Rule) : r.presence.getLsbD 0 = r.window.isSome := by
  cases window : r.window <;> cases action : r.action <;> simp [Rule.presence, window, action]

theorem readPassRefuse_code (d : PassRefuse) : readPassRefuse d.code = some d := by cases d <;> rfl

theorem readLogLevel_code (l : LogLevel) : readLogLevel l.code = some l := by cases l <;> rfl

theorem ruleRecordOf_operationSet (r : Rule) : (ruleRecordOf r).operationSet = r.selector.operations :=
  OperationSet.byte_bits r.selector.operations

/-- The stations listed are those in the first places of the station bytes. -/
theorem ruleRecordOf_stations {r : Rule} (legal : r.selector.Legal) :
    (ruleRecordOf r).selector.stations = r.selector.stations := by
  cases stations : r.selector.stations with
  | none => simp [RuleRecord.selector, ruleRecordOf, stations]
  | some l =>
    obtain ⟨one, four, -, -⟩ := legal.stations l stations
    have listed : l ≠ [] := by rintro rfl; simp at one
    simp [RuleRecord.selector, RuleRecord.stations, ruleRecordOf, stations, listed, padded_take l four]

theorem ruleRecordOf_selector {r : Rule} (legal : r.selector.Legal) : (ruleRecordOf r).selector = r.selector := by
  calc (ruleRecordOf r).selector
      = ⟨r.selector.nodeLow, r.selector.nodeHigh, (ruleRecordOf r).operationSet, r.selector.registerLow,
          r.selector.registerHigh, (ruleRecordOf r).selector.stations⟩ := rfl
    _ = r.selector := by rw [ruleRecordOf_operationSet, ruleRecordOf_stations legal]

theorem ruleRecordOf_action (r : Rule) : (ruleRecordOf r).ruleAction = r.action := by
  cases action : r.action with
  | pass => simp [RuleRecord.ruleAction, ruleRecordOf, action, RuleAction.code]
  | refuse => simp [RuleRecord.ruleAction, ruleRecordOf, action, RuleAction.code]
  | hold limit d => simp [RuleRecord.ruleAction, ruleRecordOf, action, RuleAction.code, readPassRefuse_code]
  | meter m =>
    simp only [RuleRecord.ruleAction, ruleRecordOf, action, RuleAction.code]
    simp [Fin.ext_iff]

theorem ruleRecordOf_window (r : Rule) : (ruleRecordOf r).toRule.window = r.window := by
  have present : (ruleRecordOf r).hasWindow = r.window.isSome := Rule.presence_window r
  simp only [RuleRecord.toRule, present]
  cases window : r.window <;> simp [ruleRecordOf, window]

theorem ruleRecordOf_logLevel (r : Rule) : (ruleRecordOf r).toRule.logLevel = r.logLevel := by
  simp [RuleRecord.toRule, ruleRecordOf, readLogLevel_code]

theorem ruleRecordOf_toRule {r : Rule} (legal : r.selector.Legal) : (ruleRecordOf r).toRule = r := by
  calc (ruleRecordOf r).toRule
      = ⟨(ruleRecordOf r).selector, (ruleRecordOf r).toRule.window, (ruleRecordOf r).ruleAction,
          (ruleRecordOf r).toRule.logLevel⟩ := rfl
    _ = r := by rw [ruleRecordOf_selector legal, ruleRecordOf_window, ruleRecordOf_action, ruleRecordOf_logLevel]

/-- A fallback rule is a legal bank rule when its selector is (R26). -/
theorem FallbackRule.toRule_legal {f : FallbackRule} (legal : f.selector.Legal) : f.toRule.Legal := by
  refine ⟨legal, by simp [FallbackRule.toRule], ?_⟩
  intro limit d hold
  cases action : f.action <;> simp [FallbackRule.toRule, action] at hold

theorem ruleRecordOf_toFallbackRule {f : FallbackRule} (legal : f.selector.Legal) :
    (ruleRecordOf f.toRule).toFallbackRule = f := by
  have selector : (ruleRecordOf f.toRule).selector = f.selector := ruleRecordOf_selector legal
  obtain ⟨_, action, level⟩ := f
  cases action <;> simp_all [RuleRecord.toFallbackRule, ruleRecordOf, FallbackRule.toRule, RuleAction.code,
    readPassRefuse, readLogLevel_code]

/-- Settles O50: the bytes are read as the rule's fields, and each field as the part of the rule it was made of. -/
theorem ruleRecordRoundTrip : Obligations.RuleRecordRoundTrip := by
  refine ⟨fun r legal => ⟨ruleBytes_length r, ?bank⟩, fun f legal => ?fallback⟩
  case bank => rw [readRuleRecord_ruleBytes legal, ruleRecordOf_toRule legal.selector]
  case fallback => rw [readRuleRecord_ruleBytes (FallbackRule.toRule_legal legal), ruleRecordOf_toFallbackRule legal]

/-! ### A record that passes its checks spells a legal rule (R25, R26, R37, R42) -/

theorem firstFailing_eq_none {checks : List Bool} : firstFailing checks = none ↔ ∀ failed ∈ checks, failed = false := by
  simp [firstFailing]

theorem ruleAddress_iff (a : Byte) : ruleAddress a ↔ badAddress a = false := by
  simp [ruleAddress, badAddress]; omega

theorem RuleRecord.selector_legal {r : RuleRecord} (places : r.stationBytes.length = 4)
    (passed : ∀ failed ∈ r.selectorFaults, failed = false) :
    r.selector.Legal := by
  simp only [RuleRecord.selectorFaults, List.forall_mem_cons, Bool.or_eq_false_iff, decide_eq_false_iff_not,
    Bool.not_eq_false', decide_eq_true_eq, List.any_eq_false] at passed
  obtain ⟨low, ⟨high, nodes⟩, operations, registers, ⟨⟨count, addresses⟩, once⟩, -⟩ := passed
  constructor
  case low => exact (ruleAddress_iff _).2 low
  case high => exact (ruleAddress_iff _).2 high
  case nodes => exact Nat.not_lt.1 nodes
  case operations => simpa [RuleRecord.selector, ← Bool.not_or] using operations
  case registers => exact Nat.not_lt.1 registers
  case stations =>
    intro l listed
    simp only [RuleRecord.selector] at listed
    split at listed
    case isTrue => cases listed
    case isFalse counted =>
      obtain rfl := Option.some.inj listed
      refine ⟨?_, ?_, once, fun a member => (ruleAddress_iff a).2 (by simpa using addresses a member)⟩
      · simp [RuleRecord.stations, places]; omega
      · simp [RuleRecord.stations]; omega

/-- The checks after the selector's are those of the window, the action and its fields, and the log level. -/
theorem RuleRecord.toRule_legal {r : RuleRecord} {slot : Nat} (places : r.stationBytes.length = 4)
    (passed : firstFailing (r.bankFaults slot) = none) : r.toRule.Legal := by
  simp only [firstFailing_eq_none, RuleRecord.bankFaults, List.forall_mem_cons, List.forall_mem_append,
    Bool.and_eq_false_iff, decide_eq_false_iff_not] at passed
  obtain ⟨⟨-, selector⟩, window, -, -, limit, -⟩ := passed
  constructor
  case selector => exact RuleRecord.selector_legal places selector
  case window =>
    intro w present
    simp only [RuleRecord.toRule] at present
    split at present
    case isTrue has => obtain rfl := Option.some.inj present; simp only [has] at window; simp at window; omega
    case isFalse => cases present
  case hold =>
    intro n d held
    simp only [RuleRecord.toRule, RuleRecord.ruleAction] at held
    obtain ⟨hold, rfl⟩ : r.action = 2 ∧ r.holdLimit = n := by grind
    simp [hold] at limit
    omega

theorem RuleRecord.toFallbackRule_legal {r : RuleRecord} {slot : Nat} (places : r.stationBytes.length = 4)
    (passed : firstFailing (r.fallbackFaults slot) = none) : r.toFallbackRule.selector.Legal := by
  simp only [firstFailing_eq_none, RuleRecord.fallbackFaults, List.forall_mem_cons, List.forall_mem_append] at passed
  exact RuleRecord.selector_legal places passed.1.2

theorem readRuleRecord_places {record : List Byte} (form : record.length = 25) :
    (readRuleRecord record).stationBytes.length = 4 := by simp [readRuleRecord, form]

end Sys2Proof.Machine
end

section
/-! PROOFS. What a step can do, said once: the executions of new commands, the effects of accepted frames, the events of
the line, the pins and the timers, and what the S-port's completions and loss do. -/
namespace Sys2Proof.Machine

/-! ### What executing a new command can do (R137) -/

/-- What the execution of a new command can leave of the state that has accepted its frame. -/
inductive Execution (s : State) : State → Prop
  | nothing : Execution s s
  | loadsShadow (b : Bank) (idle : s.commit.state = .idle) (legal : s.active.Legal → s.shadow.Legal → b.Legal) :
      Execution s { s with shadow := b }
  | loadsFallback (f : FallbackTable) (legal : s.fallback.Legal → f.Legal) : Execution s { s with fallback := f }
  | commits (mode : s.control.mode = .governed) (fits : s.shadow.windowFault = none) :
      Execution s { s with commit := { s.commit with state := .pending } }
  | aborts : Execution s { s with commit := { s.commit with state := .idle } }
  | releases (i : EntryIndex) (x : Txn) (hold : Hold) (held : s.entryState i = .held x hold) :
      Execution s (s.releaseHold i x)
  | denies (i : EntryIndex) (x : Txn) (hold : Hold) (held : s.entryState i = .held x hold) :
      Execution s (s.denyHold i x)
  | editsLog (l : CaptureLog) (shorter : l.records.length ≤ s.log.records.length)
      (threshold : l.threshold = s.log.threshold ∨ 1 ≤ l.threshold ∧ l.threshold ≤ 256) :
      Execution s { s with log := l }
  | readsCounters (c : CounterSet) : Execution s { s with counters := c }
  | clearsExceed (ms : List (Fin Config.meters)) : Execution s (ms.foldl State.clearExceed s)
  | clearsEvents (e : EventSet) : Execution s (s.clearSticky e)
  | writesEvents (enabled line : EventSet) : Execution s (s.writeEvents enabled line)
  | acknowledges : Execution s s.acknowledge
  | setsInterval (n : Nat) (least : 2 ≤ n) (most : n ≤ 255) :
      Execution s { s with notice := { s.notice with interval := n } }
  | setsPeriod (n : Nat) (least : 1 ≤ n) (most : n ≤ 255) :
      Execution s { s with control := { s.control with period := n } }
  | entersFallback (mode : s.control.mode = .governed) : Execution s (s.enterFallback .command)
  | resumes (mode : s.control.mode = .fallback) : Execution s s.resumeGoverned
  | editsEpoch (e : EpochTimer) (number : e.number = s.epoch.number)
      (offset : e.offset = s.epoch.offset ∨ e.offset < s.epochLength) : Execution s { s with epoch := e }
  | awaitsReset : Execution s s.awaitReset

/-! ### The executions, command by command -/

@[simp] theorem State.answer_state (s : State) (result : ResultCode) (payload : List Byte) :
    (s.answer result payload).state = s := rfl

theorem State.heldBy_eq_some {s : State} {r : HoldRef} {x : Txn} (named : s.heldBy r = some x) :
    s.generation r.index = r.generation ∧ ∃ hold, s.entryState r.index = .held x hold := by
  cases entry : s.entryState r.index with
  | held y hold =>
    simp only [State.heldBy, entry] at named
    split at named
    case isTrue same => exact ⟨same, hold, by rw [Option.some.inj named]⟩
    case isFalse => cases named
  | free | queued | inFlight | returning => simp [State.heldBy, entry] at named

theorem execution_shadowWrite {s : State} {body : State → Answered}
    (execution : s.commit.state = .idle → Execution s (body s).state) : Execution s (shadowWrite body s).state := by
  cases state : s.commit.state with
  | idle => simpa only [shadowWrite, state] using execution state
  | pending => simpa only [shadowWrite, state, State.answer_state] using Execution.nothing

theorem execution_fallbackWrite {s : State} {body : State → Answered} (execution : Execution s (body s).state) :
    Execution s (fallbackWrite body s).state := by
  cases mode : s.control.mode with
  | governed => simpa only [fallbackWrite, mode] using execution
  | fallback => simpa only [fallbackWrite, mode, State.answer_state] using Execution.nothing

/-- A legal bank stays legal when a slot is written with a legal rule or emptied (R37, R38). -/
theorem Bank.Legal.setSlot {b : Bank} (legal : b.Legal) {slot : Option Rule} (rule : ∀ r, slot = some r → r.Legal)
    (n : Nat) (inRange : n < Config.bankSlots) : ({ b with slots := b.slots.set n slot inRange } : Bank).Legal := by
  refine ⟨fun k r hr => ?_, legal.timeout, legal.epochLength⟩
  simp only [Fin.getElem_fin, Vector.getElem_set] at hr
  split at hr
  · exact rule r hr
  · exact legal.rules k r hr

theorem FallbackTable.Legal.setSlot {f : FallbackTable} (legal : f.Legal) {slot : Option FallbackRule}
    (rule : ∀ r, slot = some r → r.selector.Legal) (n : Nat) (inRange : n < Config.fallbackSlots) :
    ({ f with slots := f.slots.set n slot inRange } : FallbackTable).Legal := by
  refine ⟨fun k r hr => ?_, legal.timeout⟩
  simp only [Fin.getElem_fin, Vector.getElem_set] at hr
  split at hr
  · exact rule r hr
  · exact legal.rules k r hr

theorem execution_putShadowSlot {s : State} (idle : s.commit.state = .idle) (n : Nat) {slot : Option Rule}
    (rule : ∀ r, slot = some r → r.Legal) : Execution s (s.putShadowSlot n slot) := by
  unfold State.putShadowSlot
  split
  · exact .loadsShadow _ idle fun _ legal => legal.setSlot rule n _
  · exact .nothing

theorem execution_putFallbackSlot (s : State) (n : Nat) {slot : Option FallbackRule}
    (rule : ∀ r, slot = some r → r.selector.Legal) : Execution s (s.putFallbackSlot n slot) := by
  unfold State.putFallbackSlot
  split
  · exact .loadsFallback _ fun legal => legal.setSlot rule n _
  · exact .nothing

section
variable {args : List Byte} {s : State}

theorem execution_writeRule (form : args.length = 26) :
    Execution s (shadowWrite (writeRuleBody args) s).state := by
  refine execution_shadowWrite fun idle => ?_
  unfold writeRuleBody
  dsimp only
  split
  case h_1 => exact .nothing
  case h_2 passed =>
    refine execution_putShadowSlot idle _ ?_
    rintro r ⟨⟩
    exact RuleRecord.toRule_legal (readRuleRecord_places (by simp [form])) passed

theorem execution_eraseRule : Execution s (shadowWrite (eraseRuleBody args) s).state := by
  refine execution_shadowWrite fun idle => ?_
  unfold eraseRuleBody
  split
  · exact .nothing
  · exact execution_putShadowSlot idle _ (by simp)

theorem execution_clearShadow : Execution s (shadowWrite (fun s => s.clearShadow.answer .done []) s).state :=
  execution_shadowWrite fun idle =>
    .loadsShadow _ idle fun _ legal => ⟨fun n r hr => by simp at hr, legal.timeout, legal.epochLength⟩

theorem execution_copyActive : Execution s (shadowWrite (fun s => s.copyActive.answer .done []) s).state :=
  execution_shadowWrite fun idle => .loadsShadow _ idle fun active _ => active

/-- Parameters that pass their checks are legal (R23, R39). -/
theorem readParams_legal (passed : paramsFault args = none) : (1 ≤ (readParams args).responseTimeout
    ∧ (readParams args).responseTimeout ≤ 255) ∧ 100 ≤ (readParams args).epochLength
    ∧ (readParams args).epochLength ≤ 1000000 := by
  have byte := field_lt args 2 1
  unfold paramsFault at passed
  split at passed
  case h_1 => cases passed
  case h_2 checked =>
    simp only [firstFailing_eq_none, List.forall_mem_cons, decide_eq_false_iff_not] at checked
    obtain ⟨-, -, timeout, length, -⟩ := checked
    simp only [readParams]
    omega

theorem execution_writeBankParams : Execution s (shadowWrite (writeBankParamsBody args) s).state := by
  refine execution_shadowWrite fun idle => ?_
  unfold writeBankParamsBody
  split
  case h_1 => exact .nothing
  case h_2 passed =>
    exact .loadsShadow _ idle fun _ legal => ⟨legal.rules, (readParams_legal passed).1, (readParams_legal passed).2⟩

theorem execution_readRule : Execution s (readRuleBody args s).state := by
  unfold readRuleBody
  split
  · exact .nothing
  · split <;> exact .nothing

theorem execution_readBankParams : Execution s (readBankParamsBody args s).state := by
  unfold readBankParamsBody
  split <;> exact .nothing

theorem execution_writeFallbackRule (form : args.length = 26) :
    Execution s (fallbackWrite (writeFallbackRuleBody args) s).state := by
  refine execution_fallbackWrite ?_
  unfold writeFallbackRuleBody
  dsimp only
  split
  case h_1 => exact .nothing
  case h_2 passed =>
    refine execution_putFallbackSlot s _ ?_
    rintro r ⟨⟩
    exact RuleRecord.toFallbackRule_legal (readRuleRecord_places (by simp [form])) passed

theorem execution_eraseFallbackRule : Execution s (fallbackWrite (eraseFallbackRuleBody args) s).state := by
  refine execution_fallbackWrite ?_
  unfold eraseFallbackRuleBody
  split
  · exact .nothing
  · exact execution_putFallbackSlot s _ (by simp)

theorem execution_writeFallbackParams : Execution s (fallbackWrite (writeFallbackParamsBody args) s).state := by
  refine execution_fallbackWrite ?_
  have byte := field_lt args 1 1
  unfold writeFallbackParamsBody
  split
  · exact .nothing
  · split
    · exact .nothing
    · exact .loadsFallback _ fun legal => ⟨legal.rules, by dsimp only; omega⟩

theorem execution_readFallback : Execution s (readFallbackBody args s).state := by
  unfold readFallbackBody
  split <;> exact .nothing

theorem execution_commit : Execution s (commitBody s).state := by
  cases mode : s.control.mode with
  | fallback => simpa only [commitBody_fallback mode, State.answer_state] using Execution.nothing
  | governed =>
    cases state : s.commit.state with
    | pending => simpa only [commitBody_pending mode state, State.answer_state] using Execution.nothing
    | idle =>
      cases fault : s.shadow.windowFault with
      | some f => simpa only [commitBody_rejected mode state fault, State.answer_state] using Execution.nothing
      | none => simpa only [commitBody, mode, state, fault, State.answer_state] using Execution.commits mode fault

theorem execution_abortCommit : Execution s (abortCommitBody s).state := by
  unfold abortCommitBody
  split
  · exact .aborts
  · exact .nothing

theorem execution_listHolds : Execution s (listHoldsBody args s).state := by
  unfold listHoldsBody
  dsimp only
  split
  · exact .nothing
  · split <;> exact .nothing

/-- The reference of RELEASE and DENY names a held entry, or nothing is done (R53). -/
theorem execution_onHeld {resolve : HoldRef → Txn → State → Answered}
    (execution : ∀ r x hold, s.entryState r.index = .held x hold → Execution s (resolve r x s).state) :
    Execution s (onHeld args resolve s).state := by
  cases reference : readHoldRef args with
  | none => simpa only [onHeld, reference, State.badField, State.answer_state] using Execution.nothing
  | some r =>
    cases named : s.heldBy r with
    | none => simpa only [onHeld, reference, named, State.notHeld, State.answer_state] using Execution.nothing
    | some x =>
      obtain ⟨-, hold, held⟩ := State.heldBy_eq_some named
      simpa only [onHeld, reference, named] using execution r x hold held

theorem execution_release : Execution s (onHeld args releaseBody s).state :=
  execution_onHeld fun r x hold held => .releases r.index x hold held

theorem execution_deny : Execution s (onHeld args denyBody s).state :=
  execution_onHeld fun r x hold held => .denies r.index x hold held

theorem execution_readMeters : Execution s (readMetersBody args s).state := by
  unfold readMetersBody
  dsimp only
  split
  · exact .nothing
  · split
    · exact .nothing
    · split
      · exact .nothing
      · split
        · exact .clearsExceed _
        · exact .nothing

theorem execution_alignEpoch : Execution s (alignEpochBody args s).state := by
  unfold alignEpochBody
  split
  · exact .nothing
  · exact .editsEpoch _ rfl (.inr (by dsimp only; omega))

theorem execution_setSync : Execution s (setSyncBody args s).state := by
  unfold setSyncBody
  split
  · exact .nothing
  · exact .editsEpoch _ rfl (.inl rfl)

theorem execution_readLog : Execution s (readLogBody args s).state := by
  unfold readLogBody
  dsimp only
  split
  · exact .nothing
  · exact .editsLog _ (by simp) (.inl rfl)

theorem execution_setLog : Execution s (setLogBody args s).state := by
  unfold setLogBody
  split
  case h_1 => exact .nothing
  case h_2 passed =>
    simp only [firstFailing_eq_none, List.forall_mem_cons, decide_eq_false_iff_not] at passed
    obtain ⟨-, threshold, -⟩ := passed
    exact .editsLog _ (Nat.le_refl _) (.inr (by dsimp only; omega))

theorem execution_readCounters : Execution s (readCountersBody args s).state := by
  unfold readCountersBody
  split
  · exact .nothing
  · exact .readsCounters _

theorem execution_clearEvents : Execution s (clearEventsBody args s).state := by
  unfold clearEventsBody
  split
  · exact .nothing
  · exact .clearsEvents _

theorem execution_setEvents : Execution s (setEventsBody args s).state := by
  unfold setEventsBody
  split
  · exact .nothing
  · exact .nothing
  · exact .writesEvents _ _

theorem execution_ackNotice : Execution s (ackNoticeBody args s).state := by
  unfold ackNoticeBody
  split
  · exact .acknowledges
  · exact .nothing

theorem execution_setNoticeRetry : Execution s (setNoticeRetryBody args s).state := by
  have byte := field_lt args 0 1
  unfold setNoticeRetryBody
  split
  · exact .nothing
  · exact .setsInterval _ (by omega) (by omega)

theorem execution_setLiveness : Execution s (setLivenessBody args s).state := by
  have byte := field_lt args 0 1
  unfold setLivenessBody
  split
  · exact .nothing
  · exact .setsPeriod _ (by omega) (by omega)

theorem execution_enterFallback : Execution s (enterFallbackBody s).state := by
  cases mode : s.control.mode with
  | fallback => simpa only [enterFallbackBody, mode, State.answer_state] using Execution.nothing
  | governed => simpa only [enterFallbackBody, mode, State.answer_state] using Execution.entersFallback mode

theorem execution_resume : Execution s (resumeBody s).state := by
  cases mode : s.control.mode with
  | governed => simpa only [resumeBody, mode, State.answer_state] using Execution.nothing
  | fallback => simpa only [resumeBody, mode, State.answer_state] using Execution.resumes mode

end

/-! ### What an accepted frame can do -/

/-- What an accepted frame can do to the state that has accepted it. A request is given an entry only at an UP
S-port. -/
inductive FrameEffect (s : State) : State → Prop
  | refused (q : Request) (c : RefusalCause) : FrameEffect s (s.refuseAdmission q c)
  | allocated (q : Request) (stamp : Stamp) (i : EntryIndex) (up : s.sPort.link.isUp = true)
      (fresh : s.tagInUse q.station q.tag = false) (free : s.entryState i = .free) :
      FrameEffect s (s.allocate i q stamp)
  | answered (i : EntryIndex) (x : Txn) (d : Nat) (inFlight : s.entryState i = .inFlight x d) (a : Answer) :
      FrameEffect s (s.becomeReturning i x a)
  | stray (r : Response) : FrameEffect s (s.takeStray r)
  | discarded : FrameEffect s s
  | overrun : FrameEffect s (s.bump .managementOverruns)
  | turnedAway (r : Reply) (room : s.sPort.replies.length < 4) : FrameEffect s (s.pushReply r)
  | duplicate (r : Reply) (room : s.sPort.replies.length < 4) (o : OpenSession) (opened : s.session.current = some o) :
      FrameEffect s (s.answerDuplicate r)
  | opens (h : CommandHeader) (room : s.sPort.replies.length < 4) (closed : s.session.current = none) :
      FrameEffect s (s.openFor h)
  | takesOver (h : CommandHeader) (room : s.sPort.replies.length < 4) (o : OpenSession)
      (opened : s.session.current = some o) : FrameEffect s (s.withdrawNotice.openFor h)
  | closes (h : CommandHeader) (room : s.sPort.replies.length < 4) (o : OpenSession)
      (opened : s.session.current = some o) : FrameEffect s (s.closeFor h)
  | executes (code : Byte) (h : CommandHeader) (o : OpenSession) (r : Answered)
      (room : s.sPort.replies.length < 4) (opened : s.session.current = some o) (execution : Execution s r.state) :
      FrameEffect s (answerNew code h o r)

section
variable {s : State} (room : s.sPort.replies.length < 4)

include room in
theorem frameEffect_notNew (code : Byte) (h : CommandHeader) {o : OpenSession} (opened : s.session.current = some o) :
    FrameEffect s (s.notNew code h o) := by
  unfold State.notNew
  split
  · split
    · exact .duplicate _ room o opened
    · exact .turnedAway _ room
  · exact .turnedAway _ room

include room in
/-- The session checks answer, or hand a new command on (R136 to R139). -/
theorem frameEffect_sessionChecked (code : Byte) (h : CommandHeader) {onNew : OpenSession → State → State}
    (new : ∀ o, s.session.current = some o → FrameEffect s (onNew o s)) :
    FrameEffect s (sessionChecked code h onNew s) := by
  cases opened : s.session.current with
  | none =>
    simp only [sessionChecked, opened]
    exact .turnedAway _ room
  | some o =>
    simp only [sessionChecked, opened]
    split
    · split
      · exact new o opened
      · exact frameEffect_notNew room code h opened
    · exact .turnedAway _ room

include room in
theorem frameEffect_command (c : CommandName) (h : CommandHeader) {args : List Byte} {body : State → Answered}
    (execution : args.length = c.argBytes → Execution s (body s).state) :
    FrameEffect s (sessionChecked c.code h (fun o s => answerNew c.code h o (executed c args body s)) s) := by
  refine frameEffect_sessionChecked room c.code h fun o opened => .executes _ h o _ room opened ?_
  unfold executed
  split
  case isTrue form => exact execution form
  case isFalse => exact .nothing

include room in
/-- PROBE and OPEN are checked for a sequence number and arguments (R130). -/
theorem frameEffect_sessionless (c : CommandName) (h : CommandHeader) (args : List Byte) (effect : State → State)
    (known : FrameEffect s (effect s)) :
    FrameEffect s (if h.sequence ≠ 0 then s.turnAway c.code h .badField (bigEndian 1 255 ++ bigEndian 1 0)
      else if args ≠ [] then s.turnAway c.code h .badField (bigEndian 1 0 ++ bigEndian 1 0) else effect s) := by
  split
  · exact .turnedAway _ room
  · split
    · exact .turnedAway _ room
    · exact known

include room in
theorem frameEffect_takeOpen (h : CommandHeader) : FrameEffect s (s.takeOpen h) := by
  cases opened : s.session.current with
  | none => simpa only [State.takeOpen, opened] using FrameEffect.opens h room opened
  | some o =>
    simp only [State.takeOpen, opened]
    split
    · exact .takesOver h room o opened
    · exact .turnedAway _ room

end

/-- A command of the session reaches the Agent, and its effect is one of those of a frame. -/
theorem agent_command (c : CommandName) (h : CommandHeader) {args : List Byte} {body : State → Answered}
    (execution : ∀ s, args.length = c.argBytes → Execution s (body s).state) :
    ∃ effect : State → State, (∀ s, command c h args body s = agent effect s)
      ∧ ∀ s : State, s.sPort.replies.length < 4 → FrameEffect s (effect s) :=
  ⟨_, fun _ => rfl, fun s room => frameEffect_command room c h (execution s)⟩

/-- Every row of the catalogue is a COMMAND frame handed to the Agent, and its effect is one of those of a frame. -/
theorem exec_row_agent (c : CommandName) (h : CommandHeader) (args : List Byte) :
    ∃ effect : State → State, (∀ s, exec (c.row h args) s = agent effect s)
      ∧ ∀ s : State, s.sPort.replies.length < 4 → FrameEffect s (effect s) := by
  cases c with
  | probe =>
    refine ⟨_, fun _ => rfl, fun s room => frameEffect_sessionless room .probe h args
      (fun s => s.turnAway CommandName.probe.code h .done s.probePayload) ?_⟩
    exact .turnedAway _ room
  | openSession =>
    exact ⟨_, fun _ => rfl, fun _ room => frameEffect_sessionless room .openSession h args (State.takeOpen h)
      (frameEffect_takeOpen room h)⟩
  | closeSession =>
    refine ⟨_, fun _ => rfl, fun s room => frameEffect_sessionChecked room _ h fun o opened => ?_⟩
    split
    · exact .closes h room o opened
    · exact .executes _ h o _ room opened .nothing
  | keepalive => exact agent_command .keepalive h fun _ _ => .nothing
  | resetPart => exact agent_command .resetPart h fun _ _ => .awaitsReset
  | getStatus => exact agent_command .getStatus h fun _ _ => .nothing
  | clearEvents => exact agent_command .clearEvents h fun _ _ => execution_clearEvents
  | setEvents => exact agent_command .setEvents h fun _ _ => execution_setEvents
  | ackNotice => exact agent_command .ackNotice h fun _ _ => execution_ackNotice
  | setNoticeRetry => exact agent_command .setNoticeRetry h fun _ _ => execution_setNoticeRetry
  | setLiveness => exact agent_command .setLiveness h fun _ _ => execution_setLiveness
  | enterFallback => exact agent_command .enterFallback h fun _ _ => execution_enterFallback
  | resume => exact agent_command .resume h fun _ _ => execution_resume
  | writeRule => exact agent_command .writeRule h fun _ form => execution_writeRule form
  | eraseRule => exact agent_command .eraseRule h fun _ _ => execution_eraseRule
  | clearShadow => exact agent_command .clearShadow h fun _ _ => execution_clearShadow
  | copyActiveToShadow => exact agent_command .copyActiveToShadow h fun _ _ => execution_copyActive
  | writeBankParams => exact agent_command .writeBankParams h fun _ _ => execution_writeBankParams
  | readRule => exact agent_command .readRule h fun _ _ => execution_readRule
  | readBankParams => exact agent_command .readBankParams h fun _ _ => execution_readBankParams
  | writeFallbackRule => exact agent_command .writeFallbackRule h fun _ form => execution_writeFallbackRule form
  | eraseFallbackRule => exact agent_command .eraseFallbackRule h fun _ _ => execution_eraseFallbackRule
  | writeFallbackParams => exact agent_command .writeFallbackParams h fun _ _ => execution_writeFallbackParams
  | readFallback => exact agent_command .readFallback h fun _ _ => execution_readFallback
  | commit => exact agent_command .commit h fun _ _ => execution_commit
  | abortCommit => exact agent_command .abortCommit h fun _ _ => execution_abortCommit
  | listHolds => exact agent_command .listHolds h fun _ _ => execution_listHolds
  | release => exact agent_command .release h fun _ _ => execution_release
  | deny => exact agent_command .deny h fun _ _ => execution_deny
  | readMeters => exact agent_command .readMeters h fun _ _ => execution_readMeters
  | getTime => exact agent_command .getTime h fun _ _ => .nothing
  | alignEpoch => exact agent_command .alignEpoch h fun _ _ => execution_alignEpoch
  | setSync => exact agent_command .setSync h fun _ _ => execution_setSync
  | readLog => exact agent_command .readLog h fun _ _ => execution_readLog
  | setLog => exact agent_command .setLog h fun _ _ => execution_setLog
  | readCounters => exact agent_command .readCounters h fun _ _ => execution_readCounters

/-- So is the row of a code that names no command (R140). -/
theorem exec_unknownCommand_agent (code : Byte) (h : CommandHeader) (args : List Byte) :
    ∃ effect : State → State, (∀ s, exec (.unknownCommand code h args) s = agent effect s)
      ∧ ∀ s : State, s.sPort.replies.length < 4 → FrameEffect s (effect s) :=
  ⟨_, fun _ => rfl, fun _ room => frameEffect_sessionChecked room code h fun o opened =>
    .executes code h o _ room opened .nothing⟩

/-- A row of the table is a COMMAND frame of the catalogue, one of an unknown code, or no COMMAND frame. -/
theorem Instr.cases_row (i : Instr) : (∃ c h args, i = CommandName.row h args c)
    ∨ (∃ code h args, i = .unknownCommand code h args) ∨ commandFrame? i = none := by
  cases i
  case unknownCommand code h args => exact .inr (.inl ⟨code, h, args, rfl⟩)
  case probe h args => exact .inl ⟨.probe, h, args, rfl⟩
  case openSession h args => exact .inl ⟨.openSession, h, args, rfl⟩
  case closeSession h args => exact .inl ⟨.closeSession, h, args, rfl⟩
  case keepalive h args => exact .inl ⟨.keepalive, h, args, rfl⟩
  case resetPart h args => exact .inl ⟨.resetPart, h, args, rfl⟩
  case getStatus h args => exact .inl ⟨.getStatus, h, args, rfl⟩
  case clearEvents h args => exact .inl ⟨.clearEvents, h, args, rfl⟩
  case setEvents h args => exact .inl ⟨.setEvents, h, args, rfl⟩
  case ackNotice h args => exact .inl ⟨.ackNotice, h, args, rfl⟩
  case setNoticeRetry h args => exact .inl ⟨.setNoticeRetry, h, args, rfl⟩
  case setLiveness h args => exact .inl ⟨.setLiveness, h, args, rfl⟩
  case enterFallback h args => exact .inl ⟨.enterFallback, h, args, rfl⟩
  case resume h args => exact .inl ⟨.resume, h, args, rfl⟩
  case writeRule h args => exact .inl ⟨.writeRule, h, args, rfl⟩
  case eraseRule h args => exact .inl ⟨.eraseRule, h, args, rfl⟩
  case clearShadow h args => exact .inl ⟨.clearShadow, h, args, rfl⟩
  case copyActiveToShadow h args => exact .inl ⟨.copyActiveToShadow, h, args, rfl⟩
  case writeBankParams h args => exact .inl ⟨.writeBankParams, h, args, rfl⟩
  case readRule h args => exact .inl ⟨.readRule, h, args, rfl⟩
  case readBankParams h args => exact .inl ⟨.readBankParams, h, args, rfl⟩
  case writeFallbackRule h args => exact .inl ⟨.writeFallbackRule, h, args, rfl⟩
  case eraseFallbackRule h args => exact .inl ⟨.eraseFallbackRule, h, args, rfl⟩
  case writeFallbackParams h args => exact .inl ⟨.writeFallbackParams, h, args, rfl⟩
  case readFallback h args => exact .inl ⟨.readFallback, h, args, rfl⟩
  case commit h args => exact .inl ⟨.commit, h, args, rfl⟩
  case abortCommit h args => exact .inl ⟨.abortCommit, h, args, rfl⟩
  case listHolds h args => exact .inl ⟨.listHolds, h, args, rfl⟩
  case release h args => exact .inl ⟨.release, h, args, rfl⟩
  case deny h args => exact .inl ⟨.deny, h, args, rfl⟩
  case readMeters h args => exact .inl ⟨.readMeters, h, args, rfl⟩
  case getTime h args => exact .inl ⟨.getTime, h, args, rfl⟩
  case alignEpoch h args => exact .inl ⟨.alignEpoch, h, args, rfl⟩
  case setSync h args => exact .inl ⟨.setSync, h, args, rfl⟩
  case readLog h args => exact .inl ⟨.readLog, h, args, rfl⟩
  case setLog h args => exact .inl ⟨.setLog, h, args, rfl⟩
  case readCounters h args => exact .inl ⟨.readCounters, h, args, rfl⟩
  all_goals exact .inr (.inr rfl)

/-! ### What an event can do -/

/-- What an event other than the S-port's completions and its loss can do to a part that is not held in reset. -/
inductive Event (s : State) : State → Prop
  | nothing : Event s s
  | relinked (p : PortName) (l : Link) (same : l.isUp = (s.link p).isUp) : Event s (s.setLink p l)
  | dropped (p : PortName) (l : Link) (c : Counter) (up : (s.link p).isUp = true) (still : l.isUp = true) :
      Event s ((s.bump c).setLink p l)
  | linkChanged (p : PortName) (l : Link) (notUp : (s.link p).isUp = false) : Event s (s.changeLink p l)
  | nodeLeavesUp (up : s.nPort.link.isUp = true) : Event s s.nodeLeavesUp
  | launched (i : EntryIndex) (rest : List EntryIndex) (busy : s.nPort.busy = true) (head : s.nPort.queue = i :: rest) :
      Event s (State.launch i { s with nPort := { s.nPort with queue := rest, busy := false } })
  | responseExpired (i : EntryIndex) (x : Txn) (d : Nat) (inFlight : s.entryState i = .inFlight x d) :
      Event s ((s.becomeReturning i x (.refusal .noResponse)).setStatus .responseTimeout)
  | holdExpired (i : EntryIndex) (x : Txn) (hold : Hold) (held : s.entryState i = .held x hold) :
      Event s ((s.noteExpiry i x hold.default).applyDefault i x hold.default)
  | boundary : Event s s.takeBoundary
  | synced : Event s s.captureSync
  | restarted : Event s s.captureSync.takeBoundary
  | warned (d : Nat) (running : s.control.liveness = .running d) : Event s s.warnLiveness
  | lost (d : Nat) (warned : s.control.liveness = .warned d) : Event s s.loseSession
  | resent (o : OpenSession) (d : Nat) (opened : s.session.current = some o)
      (awaiting : s.notice.state = .awaitingAck d) : Event s (s.resendNotice o.owner)
  | ticked (below : s.epoch.offset + 1 < s.epochLength) :
      Event s { s with now := s.now + 1, epoch := { s.epoch with offset := s.epoch.offset + 1 } }
  | tickedOver : Event s (State.takeBoundary { s with now := s.now + 1 })
  | accepted (p : PortName) (t : State) (effect : FrameEffect (s.accept p) t) : Event s t

/-- What the S-port's completion of a transmission, or its loss, does before an awaited reset. -/
inductive StationEvent (front : Option Instr) (s : State) : State → Prop
  | nothing (completes : front = some .sPortTransmitComplete) (idle : s.sPort.sending = none) : StationEvent front s s
  | nothingToSend (completes : front = some .sPortTransmitComplete) (x : Sending) (sending : s.sPort.sending = some x)
      (empty : x = .answer ∧ s.sPort.returns = [] ∨ ∃ part, x = .reply part ∧ s.sPort.replies = []) :
      StationEvent front s (s.setSending none)
  | nextPart (completes : front = some .sPortTransmitComplete) (part : Nat)
      (sending : s.sPort.sending = some (.reply part)) : StationEvent front s (s.setSending (some (.reply (part + 1))))
  | replySent (completes : front = some .sPortTransmitComplete) (part : Nat) (r : Reply) (rest : List Reply)
      (sending : s.sPort.sending = some (.reply part)) (head : s.sPort.replies = r :: rest)
      (last : r.payload.length ≤ 67 * (part + 1)) :
      StationEvent front s { s with sPort := { s.sPort with replies := rest, sending := none } }
  | noticeSent (completes : front = some .sPortTransmitComplete) (sending : s.sPort.sending = some .notice) :
      StationEvent front s { s with sPort := { s.sPort with slot := none, sending := none } }
  | answerSent (completes : front = some .sPortTransmitComplete) (i : EntryIndex) (rest : List EntryIndex)
      (sending : s.sPort.sending = some .answer) (head : s.sPort.returns = i :: rest) :
      StationEvent front s
        (State.setEntryState i .free { s with sPort := { s.sPort with returns := rest, sending := none } })
  | refusalSent (completes : front = some .sPortTransmitComplete) (sending : s.sPort.sending = some .refusal) :
      StationEvent front s { s with sPort := { s.sPort with refusals := s.sPort.refusals.tail, sending := none } }
  | leavesUp (loses : front = some (.lossOfSignal .station)) (up : s.sPort.link.isUp = true) :
      StationEvent front s (s.dropStation.setStatus .linkChange)

/-- The front command performs the awaited management reset in a state (R148). -/
def ResetPerformed (front : Option Instr) (s : State) : Prop :=
  s.session.resetAwaited = true
  ∧ ((front = some (.lossOfSignal .station) ∧ s.sPort.link.isUp = true)
    ∨ ∃ part r replies, front = some .sPortTransmitComplete ∧ s.sPort.sending = some (.reply part)
      ∧ s.sPort.replies = r :: replies ∧ r.code = 0x05 ∧ r.result = .done ∧ r.payload.length ≤ 67 * (part + 1))

/-- What a step can come to, by the command at the front of its queue. -/
inductive Outcome (front : Option Instr) (s : State) : State → Prop
  | powerOn (straps : BitVec 6) (start : StartStrap) (resets : front = some (.powerOnReset straps start)) :
      Outcome front s (State.powerOn straps start s.choices s.pending)
  | heldLow : Outcome front s
      { s with
        heldInReset := true
        sPort := { s.sPort with sending := none }
        nPort := { s.nPort with busy := false } }
  | held (inReset : s.heldInReset = true) : Outcome front s s
  | event (t : State) (running : s.heldInReset = false) (other : front ≠ some .sPortTransmitComplete)
      (event : Event s t) : Outcome front s t.settle
  | station (t : State) (running : s.heldInReset = false) (event : StationEvent front s t) : Outcome front s t.settle
  | resets (t : State) (running : s.heldInReset = false) (event : StationEvent front s t)
      (performed : ResetPerformed front s) : Outcome front s t.managementReset.settle

section
variable {front : Option Instr} {s t : State}

theorem outcome_taken (other : front ≠ some .sPortTransmitComplete) {effect : State → State}
    (event : Event s (effect s)) (taken : taken effect s = .next t) : Outcome front s t := by
  cases held : s.heldInReset with
  | true => obtain rfl := Host.Outcome.next.inj (taken_held held effect ▸ taken); exact .held held
  | false =>
    obtain rfl := Host.Outcome.next.inj (taken_running held effect ▸ taken)
    exact .event _ held other event

theorem outcome_acceptedAt (other : front ≠ some .sPortTransmitComplete) {p : PortName} {effect : State → State}
    (known : FrameEffect (s.accept p) (effect (s.accept p))) (taken : acceptedAt p effect s = .next t) :
    Outcome front s t := by
  refine outcome_taken other ?_ taken
  split
  · exact .accepted p _ known
  · exact .nothing

theorem outcome_agent (other : front ≠ some .sPortTransmitComplete) {effect : State → State}
    (known : ∀ s : State, s.sPort.replies.length < 4 → FrameEffect s (effect s)) (taken : agent effect s = .next t) :
    Outcome front s t := by
  refine outcome_acceptedAt other ?_ taken
  split
  · exact .discarded
  · split
    case isTrue room => exact known _ room
    case isFalse => exact .overrun

end

/-! ### The effects of a request and of a response -/

theorem State.lowestFree_free {s : State} {i : EntryIndex} (lowest : s.lowestFree = some i) :
    s.entryState i = .free := by
  unfold State.lowestFree at lowest
  have free : (s.entryState i).isFree = true := by simpa using List.find?_some lowest
  cases entry : s.entryState i <;> simp_all [EntryState.isFree]

/-- A request is refused for the first test it fails, or given the lowest free entry (R4). -/
theorem frameEffect_receiveRequest {s : State} (up : s.sPort.link.isUp = true) (q : Request) (stamp : Stamp) :
    FrameEffect s (s.receiveRequest q stamp) := by
  by_cases own : q.node = s.control.ownAddress
  case pos => simpa only [State.receiveRequest, State.admission, own, if_true] using FrameEffect.refused q .badTarget
  case neg =>
    cases fresh : s.tagInUse q.station q.tag with
    | true =>
      simpa only [State.receiveRequest, State.admission, own, if_false, fresh, if_true] using
        FrameEffect.refused q .tagInUse
    | false =>
      cases lowest : s.lowestFree with
      | none =>
        simpa only [State.receiveRequest, State.admission, own, if_false, fresh, Bool.false_eq_true, lowest] using
          FrameEffect.refused q .tableFull
      | some i =>
        simpa only [State.receiveRequest, State.admission, own, if_false, fresh, Bool.false_eq_true, lowest] using
          FrameEffect.allocated q stamp i up fresh (State.lowestFree_free lowest)

/-- The entry that a response matches is IN_FLIGHT with its station, tag and node (R11). -/
theorem State.responseMatch_some {s : State} {r : Response} {i : EntryIndex} {x : Txn}
    (found : s.responseMatch r = some (i, x)) : (∃ d, s.entryState i = .inFlight x d)
      ∧ x.request.station = r.station ∧ x.request.tag = r.tag ∧ x.request.node = r.node := by
  obtain ⟨j, -, matched⟩ := List.exists_of_findSome?_eq_some found
  cases entry : s.entryState j with
  | inFlight y d =>
    simp only [entry] at matched
    split at matched
    case isTrue parties =>
      obtain ⟨rfl, rfl⟩ := Prod.mk.inj (Option.some.inj matched)
      exact ⟨⟨d, entry⟩, parties⟩
    case isFalse => cases matched
  | free | held | queued | returning => simp [entry] at matched

theorem frameEffect_response (s : State) (r : Response) {effect : State → State}
    (answers : ∀ i x, s.responseMatch r = some (i, x) →
      effect s = s.becomeReturning i x (.node r.status r.detail r.data))
    (strays : s.responseMatch r = none → effect s = s.takeStray r) : FrameEffect s (effect s) := by
  cases found : s.responseMatch r with
  | none => rw [strays found]; exact .stray r
  | some matched =>
    obtain ⟨i, x⟩ := matched
    obtain ⟨⟨d, inFlight⟩, -⟩ := State.responseMatch_some found
    rw [answers i x found]
    exact .answered i x d inFlight _

/-! ### The events of a line -/

section
variable (p : PortName) (s : State)

theorem event_cutFrame {r : Option Reception} (up : s.link p = .up r) : Event s (s.cutFrame p) :=
  .dropped p _ _ (by rw [up]; rfl) rfl

theorem event_beginFrame {r : Option Reception} (up : s.link p = .up r) : Event s (s.beginFrame p) :=
  .relinked p _ (by rw [up]; rfl)

theorem event_rejected (c : Counter) (up : (s.link p).isUp = true) : Event s ((s.endReception p).bump c) := by
  have swap : (s.endReception p).bump c = (s.bump c).setLink p (.up none) := by cases p <;> rfl
  rw [swap]
  exact .dropped p _ c up rfl

theorem event_detectSignal : Event s (s.detectSignal p) := by
  cases link : s.link p with
  | down => simpa only [State.detectSignal, link] using Event.linkChanged p (.syncing 0) (by rw [link]; rfl)
  | syncing _ => simpa only [State.detectSignal, link] using Event.nothing
  | up _ => simpa only [State.detectSignal, link] using Event.nothing

theorem event_takeIdle : Event s (s.takeIdle p) := by
  cases link : s.link p with
  | down => simpa only [State.takeIdle, link] using Event.nothing
  | syncing run =>
    simp only [State.takeIdle, link]
    split
    · exact .relinked p _ (by rw [link]; rfl)
    · exact .linkChanged p _ (by rw [link]; rfl)
  | up reception =>
    cases reception with
    | none => simpa only [State.takeIdle, link] using Event.nothing
    | some r => simpa only [State.takeIdle, link] using event_cutFrame p s link

theorem event_takeSymbol (symbol : LineSymbol) : Event s (s.takeSymbol p symbol) := by
  cases link : s.link p with
  | down => simpa only [State.takeSymbol, link] using Event.nothing
  | syncing run =>
    simpa only [State.takeSymbol, link] using Event.relinked p (.syncing 0) (by rw [link]; rfl)
  | up reception =>
    cases reception with
    | none =>
      cases symbol with
      | startDelimiter =>
        simpa only [State.takeSymbol, State.symbolOutsideFrame, link] using event_beginFrame p s link
      | byte | endDelimiter | invalid =>
        simpa only [State.takeSymbol, State.symbolOutsideFrame, link] using Event.nothing
    | some r =>
      cases symbol with
      | startDelimiter =>
        have begins : (s.cutFrame p).beginFrame p
            = (s.bump (.malformed p)).setLink p (.up (some ⟨⟨s.epoch.number, s.epoch.offset⟩, []⟩)) := by
          cases p <;> rfl
        simp only [State.takeSymbol, State.symbolInFrame, link, begins]
        exact .dropped p _ _ (by rw [link]; rfl) rfl
      | byte b =>
        simp only [State.takeSymbol, State.symbolInFrame, link, State.receiveByte]
        split
        · exact .relinked p _ (by rw [link]; rfl)
        · exact event_cutFrame p s link
      | endDelimiter => simpa only [State.takeSymbol, State.symbolInFrame, link] using Event.nothing
      | invalid => simpa only [State.takeSymbol, State.symbolInFrame, link] using event_cutFrame p s link

end

/-! ### The events of the pins and the timers -/

section
variable (s : State)

theorem event_expireResponse (i : EntryIndex) : Event s (s.expireResponse i) := by
  cases entry : s.entryState i with
  | inFlight x d => simpa only [State.expireResponse, entry] using Event.responseExpired i x d entry
  | free | held | queued | returning => simpa only [State.expireResponse, entry] using Event.nothing

theorem event_expireHold (i : EntryIndex) : Event s (s.expireHold i) := by
  cases entry : s.entryState i with
  | held x hold =>
    simp only [State.expireHold, entry]
    exact .holdExpired i x hold entry
  | free | inFlight | queued | returning => simpa only [State.expireHold, entry] using Event.nothing

theorem event_completeNode : Event s s.completeNode := by
  unfold State.completeNode
  split
  case h_1 i rest busy head => exact .launched i rest busy head
  case h_2 => exact .nothing
  case h_3 => exact .nothing

theorem event_syncEdge : Event s s.syncEdge := by
  cases sync : s.epoch.sync with
  | off => rw [State.syncEdge_off sync]; exact .nothing
  | capture => rw [State.syncEdge_capture sync]; exact .synced
  | restart => rw [State.syncEdge_restart sync]; exact .restarted

theorem event_expireLiveness : Event s s.expireLiveness := by
  cases liveness : s.control.liveness with
  | disarmed => simpa only [State.expireLiveness, liveness] using Event.nothing
  | running d => simpa only [State.expireLiveness, liveness] using Event.warned d liveness
  | warned d => simpa only [State.expireLiveness, liveness] using Event.lost d liveness

theorem event_expireRetry : Event s s.expireRetry := by
  unfold State.expireRetry
  split
  case h_1 d o awaiting opened => exact .resent o d opened awaiting
  case h_2 => exact .nothing
  case h_3 => exact .nothing

theorem event_tick : Event s s.tick := by
  unfold State.tick
  dsimp only
  split
  case isTrue below => exact .ticked below
  case isFalse => exact .tickedOver

end
/-! ### What the S-port's completion and its loss do -/

/-- A reply has no part left exactly when its payload ends in the part sent (R186). -/
theorem Reply.parts_le_iff (r : Reply) (part : Nat) : r.parts ≤ part + 1 ↔ r.payload.length ≤ 67 * (part + 1) := by
  simp only [Reply.parts, Config.payloadRun]
  split <;> omega

theorem Reply.isResetDone_iff (r : Reply) : r.isResetDone = true ↔ r.code = 0x05 ∧ r.result = .done := by
  rw [Reply.isResetDone, decide_eq_true_eq]
  rfl

section
variable {s : State}

theorem outcome_completeReply {part : Nat} (running : s.heldInReset = false)
    (sending : s.sPort.sending = some (.reply part)) :
    Outcome (some .sPortTransmitComplete) s (s.completeReply part).settle := by
  cases replies : s.sPort.replies with
  | nil =>
    simp only [State.completeReply, replies]
    exact .station _ running (.nothingToSend rfl _ sending (.inr ⟨part, rfl, replies⟩))
  | cons r rest =>
    simp only [State.completeReply, replies]
    split
    case isTrue => exact .station _ running (.nextPart rfl part sending)
    case isFalse noPart =>
      have last : r.payload.length ≤ 67 * (part + 1) := (r.parts_le_iff part).1 (Nat.not_lt.1 noPart)
      have sent := StationEvent.replySent (front := some .sPortTransmitComplete) rfl part r rest sending replies last
      split
      case isTrue awaited =>
        obtain ⟨awaited, done⟩ := (Bool.and_eq_true _ _).mp awaited
        obtain ⟨code, result⟩ := r.isResetDone_iff.1 done
        exact .resets _ running sent ⟨awaited, .inr ⟨part, r, rest, rfl, sending, replies, code, result, last⟩⟩
      case isFalse => exact .station _ running sent

theorem outcome_completeStation (running : s.heldInReset = false) :
    Outcome (some .sPortTransmitComplete) s s.completeStation.settle := by
  cases sending : s.sPort.sending with
  | none =>
    simp only [State.completeStation, sending]
    exact .station _ running (.nothing rfl sending)
  | some x =>
    cases x with
    | reply part => simpa only [State.completeStation, sending] using outcome_completeReply running sending
    | notice =>
      simp only [State.completeStation, sending]
      exact .station _ running (.noticeSent rfl sending)
    | answer =>
      cases returns : s.sPort.returns with
      | nil =>
        simp only [State.completeStation, State.completeAnswer, sending, returns]
        exact .station _ running (.nothingToSend rfl _ sending (.inl ⟨rfl, returns⟩))
      | cons i rest =>
        simp only [State.completeStation, State.completeAnswer, sending, returns]
        exact .station _ running (.answerSent rfl i rest sending returns)
    | refusal =>
      simp only [State.completeStation, sending]
      exact .station _ running (.refusalSent rfl sending)

theorem State.dropStation_resetAwaited (s : State) :
    (s.dropStation.setStatus .linkChange).session.resetAwaited = s.session.resetAwaited := by
  simp [State.dropStation]

theorem outcome_stationLeavesUp (running : s.heldInReset = false) (up : s.sPort.link.isUp = true) :
    Outcome (some (.lossOfSignal .station)) s s.stationLeavesUp.settle := by
  simp only [State.stationLeavesUp, State.dropStation_resetAwaited]
  split
  case isTrue awaited => exact .resets _ running (.leavesUp rfl up) ⟨awaited, .inl ⟨rfl, up⟩⟩
  case isFalse => exact .station _ running (.leavesUp rfl up)

end

/-! ### What a command and a step can come to -/

section
variable {front : Option Instr} {s t : State}

theorem outcome_row {c : CommandName} {h : CommandHeader} {args : List Byte}
    (other : front ≠ some .sPortTransmitComplete) (runs : exec (c.row h args) s = .next t) : Outcome front s t := by
  obtain ⟨effect, isAgent, known⟩ := exec_row_agent c h args
  exact outcome_agent other known (isAgent s ▸ runs)

theorem outcome_unknownCommand {code : Byte} {h : CommandHeader} {args : List Byte}
    (other : front ≠ some .sPortTransmitComplete) (runs : exec (.unknownCommand code h args) s = .next t) :
    Outcome front s t := by
  obtain ⟨effect, isAgent, known⟩ := exec_unknownCommand_agent code h args
  exact outcome_agent other known (isAgent s ▸ runs)

/-- A COMMAND frame runs the row its code names (R140, R185). -/
theorem execCommandFrame_eq (code : Byte) (h : CommandHeader) (args : List Byte) (s : State) :
    execCommandFrame code h args s = exec (commandRow code h args) s := by
  cases named : CommandName.ofCode code with
  | none => simp only [execCommandFrame, commandRow, named]; rfl
  | some c => cases c <;> (simp only [execCommandFrame, commandRow, named]; rfl)

theorem outcome_commandFrame {code : Byte} {h : CommandHeader} {args : List Byte}
    (other : front ≠ some .sPortTransmitComplete) (runs : execCommandFrame code h args s = .next t) :
    Outcome front s t := by
  rw [execCommandFrame_eq, commandRow] at runs
  split at runs
  · exact outcome_row other runs
  · exact outcome_unknownCommand other runs

theorem outcome_frameRejected {p : PortName} {failed : FrameCheck} (other : front ≠ some .sPortTransmitComplete)
    (runs : execFrameRejected p failed s = .next t) : Outcome front s t := by
  refine outcome_taken other ?_ runs
  split
  case isTrue up => exact event_rejected p s _ up
  case isFalse => exact .nothing

theorem outcome_requestArrival {q : Request} {stamp : Stamp} (other : front ≠ some .sPortTransmitComplete)
    (runs : execRequestArrival q stamp s = .next t) : Outcome front s t :=
  outcome_acceptedAt other (frameEffect_receiveRequest (by rw [State.accept_sPort_link]; rfl) q stamp) runs

theorem outcome_responseArrival {r : Response} (other : front ≠ some .sPortTransmitComplete)
    (runs : execResponseArrival r s = .next t) : Outcome front s t :=
  outcome_acceptedAt other
    (frameEffect_response _ r (fun i x found => by rw [found]) (fun found => by rw [found])) runs

/-- A symbol is taken by itself, or it completes a frame, which is checked and comes to what its row comes to (R170). -/
theorem outcome_otherSymbol (p : PortName) (symbol : LineSymbol) (other : front ≠ some .sPortTransmitComplete)
    (runs : execOtherSymbol p symbol s = .next t) : Outcome front s t := by
  unfold execOtherSymbol at runs
  split at runs
  case h_2 => exact outcome_taken other (event_takeSymbol p s _) runs
  case h_1 =>
    unfold execFrame at runs
    split at runs
    case h_1 => exact outcome_frameRejected other runs
    case h_2 => exact outcome_requestArrival other runs
    case h_3 => exact outcome_responseArrival other runs
    case h_4 => exact outcome_commandFrame other runs

theorem outcome_lossOfSignal {p : PortName} (runs : exec (.lossOfSignal p) s = .next t) :
    Outcome (some (.lossOfSignal p)) s t := by
  have taken : taken (State.loseSignal p) s = .next t := runs
  cases held : s.heldInReset with
  | true => obtain rfl := Host.Outcome.next.inj (taken_held held _ ▸ taken); exact .held held
  | false =>
    obtain rfl := Host.Outcome.next.inj (taken_running held _ ▸ taken)
    cases link : s.link p with
    | down =>
      simp only [State.loseSignal, link]
      exact .event _ held (by simp) .nothing
    | syncing run =>
      simp only [State.loseSignal, link]
      exact .event _ held (by simp) (.linkChanged p .down (by rw [link]; rfl))
    | up r =>
      have up : (s.link p).isUp = true := by rw [link]; rfl
      simp only [State.loseSignal, link]
      cases p with
      | station => exact outcome_stationLeavesUp held up
      | node => exact .event _ held (by simp) (.nodeLeavesUp up)

/-- What a command can come to, taken from the front of the queue. -/
theorem outcome_exec (c : Instr) (runs : exec c s = .next t) : Outcome (some c) s t := by
  rcases Instr.cases_row c with ⟨name, h, args, rfl⟩ | ⟨code, h, args, rfl⟩ | noFrame
  · exact outcome_row (by cases name <;> simp [CommandName.row]) runs
  · exact outcome_unknownCommand (by simp) runs
  · cases c
    case rstNAsserted => obtain rfl := Host.Outcome.next.inj runs; exact .heldLow
    case powerOnReset straps start => obtain rfl := Host.Outcome.next.inj runs; exact .powerOn straps start rfl
    case signalDetected p => exact outcome_taken (by simp) (event_detectSignal p s) runs
    case validIdleSymbol p => exact outcome_taken (by simp) (event_takeIdle p s) runs
    case otherSymbol p symbol => exact outcome_otherSymbol p symbol (by simp) runs
    case lossOfSignal p => exact outcome_lossOfSignal runs
    case frameRejected p failed => exact outcome_frameRejected (by simp) runs
    case requestArrival q stamp => exact outcome_requestArrival (by simp) runs
    case responseArrival r => exact outcome_responseArrival (by simp) runs
    case responseDeadlineExpiry i => exact outcome_taken (by simp) (event_expireResponse s i) runs
    case nodeTransmitComplete => exact outcome_taken (by simp) (event_completeNode s) runs
    case sPortTransmitComplete =>
      have taken : taken State.completeStation s = .next t := runs
      cases held : s.heldInReset with
      | true => obtain rfl := Host.Outcome.next.inj (taken_held held _ ▸ taken); exact .held held
      | false =>
        obtain rfl := Host.Outcome.next.inj (taken_running held _ ▸ taken)
        exact outcome_completeStation held
    case holdDeadlineExpiry i => exact outcome_taken (by simp) (event_expireHold s i) runs
    case epochBoundary => exact outcome_taken (by simp) .boundary runs
    case syncInEdge transition =>
      cases transition with
      | lowToHigh => exact outcome_taken (effect := State.syncEdge) (by simp) (event_syncEdge s) runs
      | highToLow => exact outcome_taken (effect := id) (by simp) .nothing runs
    case livenessExpiry => exact outcome_taken (by simp) (event_expireLiveness s) runs
    case noticeRetryExpiry => exact outcome_taken (by simp) (event_expireRetry s) runs
    all_goals cases noFrame

end

/-! ### The expiry that an idle step takes (log 2) -/

/-- The expiry chosen is one of those due. -/
theorem chooseExpiry_mem {choice : Nat} {due : List Instr} {c : Instr} (chosen : chooseExpiry choice due = some c) :
    c ∈ due := by
  match due, chosen with
  | [c], rfl => simp
  | c :: d :: rest, rfl =>
    have inside : Config.expiryChoice choice % (c :: d :: rest).length < (c :: d :: rest).length := Nat.mod_lt _ (by simp)
    rw [List.getD_eq_getElem?_getD, List.getElem?_eq_getElem inside, Option.getD_some]
    exact List.getElem_mem _

theorem chooseExpiry_eq_none {choice : Nat} {due : List Instr} : chooseExpiry choice due = none ↔ due = [] := by
  match due with
  | [] => simp [chooseExpiry]
  | [c] => simp [chooseExpiry]
  | c :: d :: rest => simp [chooseExpiry]

theorem State.dueEntry_eq_some {s : State} {i : EntryIndex} {c : Instr} :
    s.dueEntry i = some c ↔ (c = .holdDeadlineExpiry i ∨ c = .responseDeadlineExpiry i) ∧ Due s c := by
  constructor
  · intro due
    cases entry : s.entryState i with
    | held x hold =>
      obtain ⟨reached, rfl⟩ : hold.deadline ≤ s.now ∧ .holdDeadlineExpiry i = c := by
        simpa [State.dueEntry, entry] using due
      exact ⟨.inl rfl, x, hold, entry, reached⟩
    | inFlight x d =>
      obtain ⟨reached, rfl⟩ : d ≤ s.now ∧ .responseDeadlineExpiry i = c := by
        simpa [State.dueEntry, entry] using due
      exact ⟨.inr rfl, x, d, entry, reached⟩
    | free | queued | returning => simp [State.dueEntry, entry] at due
  · rintro ⟨rfl | rfl, due⟩
    · obtain ⟨x, hold, entry, reached⟩ := due
      simp [State.dueEntry, entry, reached]
    · obtain ⟨x, d, entry, reached⟩ := due
      simp [State.dueEntry, entry, reached]

theorem State.mem_dueLiveness {s : State} {c : Instr} : c ∈ s.dueLiveness ↔ c = .livenessExpiry ∧ Due s c := by
  constructor
  · intro due
    cases liveness : s.control.liveness with
    | disarmed => simp [State.dueLiveness, liveness] at due
    | running d =>
      obtain ⟨reached, rfl⟩ : d ≤ s.now ∧ c = .livenessExpiry := by simpa [State.dueLiveness, liveness] using due
      exact ⟨rfl, d, .inl liveness, reached⟩
    | warned d =>
      obtain ⟨reached, rfl⟩ : d ≤ s.now ∧ c = .livenessExpiry := by simpa [State.dueLiveness, liveness] using due
      exact ⟨rfl, d, .inr liveness, reached⟩
  · rintro ⟨rfl, d, liveness | liveness, reached⟩ <;> simp [State.dueLiveness, liveness, reached]

theorem State.mem_dueRetry {s : State} {c : Instr} : c ∈ s.dueRetry ↔ c = .noticeRetryExpiry ∧ Due s c := by
  constructor
  · intro due
    cases state : s.notice.state with
    | idle => simp [State.dueRetry, state] at due
    | awaitingAck d =>
      obtain ⟨reached, rfl⟩ : d ≤ s.now ∧ c = .noticeRetryExpiry := by simpa [State.dueRetry, state] using due
      exact ⟨rfl, d, state, reached⟩
  · rintro ⟨rfl, d, state, reached⟩
    simp [State.dueRetry, state, reached]

theorem State.mem_dueExpiries {s : State} {c : Instr} (running : s.heldInReset = false) :
    c ∈ s.dueExpiries ↔ Due s c := by
  have everyIndex : ∀ i : EntryIndex, i ∈ entryIndices := List.mem_finRange
  simp only [State.dueExpiries, running, Bool.false_eq_true, if_false, List.mem_append, List.mem_filterMap,
    State.dueEntry_eq_some, State.mem_dueLiveness, State.mem_dueRetry, everyIndex, true_and]
  constructor
  · rintro ((⟨i, -, due⟩ | ⟨-, due⟩) | ⟨-, due⟩) <;> exact due
  · intro due
    cases c
    case holdDeadlineExpiry i => exact .inl (.inl ⟨i, .inl rfl, due⟩)
    case responseDeadlineExpiry i => exact .inl (.inl ⟨i, .inr rfl, due⟩)
    case livenessExpiry => exact .inl (.inr ⟨rfl, due⟩)
    case noticeRetryExpiry => exact .inr ⟨rfl, due⟩
    all_goals exact due.elim

/-! ### A step -/

/-- The four expiries that an idle step takes, taken with no command at the front of the queue. -/
theorem outcome_expiry {s t : State} {c : Instr} (due : Due s c) {u : State} (runs : exec c u = .next t) :
    Outcome none u t := by
  cases c
  case holdDeadlineExpiry i => exact outcome_taken (by simp) (event_expireHold u i) runs
  case responseDeadlineExpiry i => exact outcome_taken (by simp) (event_expireResponse u i) runs
  case livenessExpiry => exact outcome_taken (by simp) (event_expireLiveness u) runs
  case noticeRetryExpiry => exact outcome_taken (by simp) (event_expireRetry u) runs
  all_goals exact due.elim

/-- What a step can come to: what its front command can, on the state with the queue's rest, or with no command waiting
what an expiry or a microsecond can (log 1, log 2). -/
theorem outcome_step {s t : State} (runs : step s = .next t) :
    ∃ choices, Outcome s.pending.head? { s with choices := choices, pending := s.pending.tail } t := by
  cases queue : s.pending with
  | cons c rest =>
    refine ⟨s.choices, outcome_exec c ?_⟩
    simpa only [step, queue, List.tail_cons] using runs
  | nil =>
    have same : { s with pending := [] } = s := by rw [← queue]
    have idle : idleStep s = .next t := by simpa only [step, queue] using runs
    cases chosen : chooseExpiry s.choices s.dueExpiries with
    | some c =>
      refine ⟨s.choices + 1, ?_⟩
      have due := chooseExpiry_mem chosen
      have running : s.heldInReset = false := by
        cases held : s.heldInReset with
        | false => rfl
        | true => simp [State.dueExpiries, held] at due
      have started : { s with choices := s.choices + 1, pending := [] } = { s with choices := s.choices + 1 } := by
        rw [← queue]
      rw [List.tail_nil, started]
      exact outcome_expiry ((State.mem_dueExpiries running).1 due) (by simpa only [idleStep, chosen] using idle)
    | none =>
      refine ⟨s.choices, ?_⟩
      rw [List.tail_nil, same]
      exact outcome_taken (by simp) (event_tick s) (by simpa only [idleStep, chosen, execTick] using idle)

/-- A predicate that the parts of a step keep, each by itself. -/
structure Kept (P : State → Prop) : Prop where
  queue : ∀ {s : State} (choices : Nat) (pending : List Instr), P s →
    P { s with choices := choices, pending := pending }
  powerOn : ∀ straps start choices pending, P (State.powerOn straps start choices pending)
  heldLow : ∀ {s : State}, P s → P
    { s with
      heldInReset := true
      sPort := { s.sPort with sending := none }
      nPort := { s.nPort with busy := false } }
  settle : ∀ {s : State}, P s → P s.settle
  reset : ∀ {s : State}, P s → P s.managementReset
  event : ∀ {s t : State}, P s → Event s t → P t
  station : ∀ {front : Option Instr} {s t : State}, P s → StationEvent front s t → P t

/-- What the parts of a step keep, every step keeps. -/
theorem Kept.step {P : State → Prop} (kept : Kept P) {s t : State} (before : P s) (runs : step s = .next t) : P t := by
  obtain ⟨choices, outcome⟩ := outcome_step runs
  have queued := kept.queue choices s.pending.tail before
  cases outcome with
  | powerOn straps start => exact kept.powerOn straps start _ _
  | heldLow => exact kept.heldLow queued
  | held => exact queued
  | event u _ _ event => exact kept.settle (kept.event queued event)
  | station u _ event => exact kept.settle (kept.station queued event)
  | resets u _ event => exact kept.settle (kept.reset (kept.station queued event))

end Sys2Proof.Machine
end

section
/-! PROOFS. What the shared operations do by way of their parts: a relation that holds for the parts holds for the whole. -/
namespace Sys2Proof.Machine

/-- A relation between states that holds for what the blocks do by the way while an entry moves: count, set and clear
statuses, take a log record, write entries, and put references into the queues. -/
structure Passive (R : State → State → Prop) : Prop where
  refl : ∀ s, R s s
  trans : ∀ {s t u}, R s t → R t u → R s u
  setStatus : ∀ s k, R s (s.setStatus k)
  clearStatus : ∀ s k, R s (s.clearStatus k)
  logRecord : ∀ s b, R s (s.logRecord b)
  bumpBy : ∀ s n c, R s (s.bumpBy n c)
  setEntry : ∀ s i e, R s (s.setEntry i e)
  joinReturns : ∀ s i, R s (s.joinReturns i)
  setNode : ∀ s n, R s { s with nPort := n }
  setHolds : ∀ s q, R s { s with holdQueue := q }

section
variable {R : State → State → Prop} (passive : Passive R) (s : State)
include passive

theorem Passive.foldl {α : Type} {f : State → α → State} (each : ∀ s x, R s (f s x)) (l : List α) :
    R s (l.foldl f s) := by
  induction l generalizing s with
  | nil => exact passive.refl s
  | cons x l ih => exact passive.trans (each s x) (ih _)

theorem Passive.bump (c : Counter) : R s (s.bump c) := passive.bumpBy s 1 c

theorem Passive.followHolds : R s s.followHolds := by
  unfold State.followHolds
  split
  · exact passive.clearStatus s _
  · split
    · exact passive.refl s
    · exact passive.setStatus s _

theorem Passive.logCompletion (x : Txn) (a : Answer) : R s (s.logCompletion x a) := by
  unfold State.logCompletion
  split
  · exact passive.refl s
  · exact passive.refl s
  · split
    · exact passive.logRecord s _
    · exact passive.refl s

theorem Passive.logDecision (x : Txn) (b : RecordBody) : R s (s.logDecision x b) := by
  cases level : x.logLevel with
  | none => simpa only [State.logDecision, level] using passive.refl s
  | decision => simpa only [State.logDecision, level] using passive.logRecord s b
  | pair => simpa only [State.logDecision, level] using passive.logRecord s b

theorem Passive.countAnswer (a : Answer) : R s (s.countAnswer a) := by
  cases a with
  | node => exact passive.refl s
  | refusal c => exact passive.bump s _

theorem Passive.queueAnswer (i : EntryIndex) : R s (s.queueAnswer i) := by
  unfold State.queueAnswer
  split
  · exact passive.joinReturns s i
  · exact passive.trans (passive.setEntry s i _) (passive.bump _ _)

theorem Passive.becomeReturning (i : EntryIndex) (x : Txn) (a : Answer) : R s (s.becomeReturning i x a) :=
  passive.trans (passive.trans (passive.setEntry s i _) (passive.countAnswer _ a))
    (passive.trans (passive.logCompletion _ x a) (passive.queueAnswer _ i))

theorem Passive.forward (i : EntryIndex) (x : Txn) : R s (s.forward i x) := by
  unfold State.forward
  split
  · exact passive.trans (passive.setNode s _) (passive.setEntry _ i _)
  · exact passive.becomeReturning s i x _

theorem Passive.removeHold (i : EntryIndex) (b : RecordBody) : R s (s.removeHold i b) :=
  passive.trans (passive.trans (passive.setHolds s _) (passive.followHolds _)) (passive.logRecord _ b)

theorem Passive.applyDefault (i : EntryIndex) (x : Txn) (d : PassRefuse) : R s (s.applyDefault i x d) := by
  cases d with
  | pass => exact passive.forward s i x
  | refuse => exact passive.becomeReturning s i x _

theorem Passive.resolveByFallback (r : HoldRef) : R s (s.resolveByFallback r) := by
  cases entry : s.entryState r.index with
  | held x hold =>
    rw [State.resolveByFallback_held entry]
    exact passive.trans (passive.removeHold s _ _) (passive.applyDefault _ _ _ _)
  | free | queued | inFlight | returning => simpa only [State.resolveByFallback, entry] using passive.refl s

theorem Passive.answerLinkDown (i : EntryIndex) : R s (s.answerLinkDown i) := by
  cases entry : s.entryState i with
  | queued x => simpa only [State.answerLinkDown, entry] using passive.becomeReturning s i x _
  | inFlight x d => simpa only [State.answerLinkDown, entry] using passive.becomeReturning s i x _
  | free | held | returning => simpa only [State.answerLinkDown, entry] using passive.refl s

theorem Passive.takeStray (r : Response) : R s (s.takeStray r) := by
  have counted := passive.trans (passive.bump s .strays) (passive.setStatus _ .strayResponse)
  unfold State.takeStray
  dsimp only
  split
  · exact passive.trans counted (passive.logRecord _ _)
  · exact counted

/-- A refusal at admission, when its queue may take it. -/
theorem Passive.refuseAdmission (queued : ∀ s r, R s (State.queueRefusal r s)) (q : Request) (c : RefusalCause) :
    R s (s.refuseAdmission q c) := by
  have flagged : ∀ u : State, R u (u.flagFullTable c) := by
    intro u
    unfold State.flagFullTable
    split
    · exact passive.setStatus u _
    · exact passive.refl u
  have refused := passive.trans (passive.trans (passive.bump s (.refusals c)) (queued _ ⟨q.station, q.tag, c⟩))
    (flagged _)
  unfold State.refuseAdmission
  dsimp only
  split
  · exact passive.trans refused (passive.logRecord _ _)
  · exact refused

theorem Passive.nodeLeavesUp : R s s.nodeLeavesUp :=
  passive.trans (passive.trans (passive.setNode s _) (passive.foldl _ passive.answerLinkDown _)) (passive.setStatus _ _)

theorem Passive.launch (i : EntryIndex) : R s (s.launch i) := by
  cases entry : s.entryState i with
  | queued x =>
    have launched := passive.setEntry s i ⟨s.generation i, .inFlight x (s.now + millis x.responseTimeout)⟩
    simpa only [State.launch, entry, State.setEntryState_eq] using launched
  | free | held | inFlight | returning => simpa only [State.launch, entry] using passive.refl s

theorem Passive.noteExpiry (i : EntryIndex) (x : Txn) (d : PassRefuse) : R s (s.noteExpiry i x d) :=
  passive.trans (passive.removeHold s i _) (passive.setStatus _ _)

theorem Passive.releaseHold (i : EntryIndex) (x : Txn) : R s (s.releaseHold i x) :=
  passive.trans (passive.removeHold s i _) (passive.forward _ i x)

theorem Passive.denyHold (i : EntryIndex) (x : Txn) : R s (s.denyHold i x) :=
  passive.trans (passive.removeHold s i _) (passive.becomeReturning _ i x _)

theorem Passive.becomeHeld (i : EntryIndex) (x : Txn) (limit : Nat) (d : PassRefuse) :
    R s (s.becomeHeld i x limit d) :=
  passive.trans (passive.trans (passive.setEntry s i _) (passive.setHolds _ _)) (passive.followHolds _)

theorem Passive.decidePass (i : EntryIndex) (x : Txn) : R s (s.decidePass i x) :=
  passive.trans (passive.logDecision s x _) (passive.forward _ i x)

theorem Passive.decideRefuse (i : EntryIndex) (x : Txn) : R s (s.decideRefuse i x) :=
  passive.trans (passive.logDecision s x _) (passive.becomeReturning _ i x _)

theorem Passive.decideHold (i : EntryIndex) (x : Txn) (limit : Nat) (d : PassRefuse) :
    R s (s.decideHold i x limit d) := by
  unfold State.decideHold
  split
  · exact passive.trans (passive.logDecision s x _) (passive.becomeHeld _ i x limit d)
  · exact passive.trans (passive.trans (passive.logDecision s x _) (passive.becomeReturning _ i x _))
      (passive.setStatus _ _)

/-- What a decision of METER does after the meter's counts are replaced (R34, R35). -/
theorem Passive.decideMeter (i : EntryIndex) (x : Txn) (m : Fin Config.meters) :
    (s.withinBudget m = true
        ∧ R (s.setMeter m { s.meters[m] with consumed := s.meters[m].consumed + 1 }) (s.decideMeter i x m))
      ∨ R (s.setMeter m { s.meters[m] with exceed := s.meters[m].exceed + 1 }) (s.decideMeter i x m) := by
  unfold State.decideMeter
  dsimp only
  split
  case isTrue within => exact .inl ⟨within, passive.trans (passive.logDecision _ x _) (passive.forward _ i x)⟩
  case isFalse =>
    refine .inr (passive.trans (passive.setStatus _ .meterExceeded) ?_)
    split
    · exact passive.trans (passive.logDecision _ x _) (passive.becomeReturning _ i x _)
    · exact passive.trans (passive.logRecord _ _) (passive.forward _ i x)

end

/-- A new epoch, in which the shadow bank is in force under its next generation with its meters reset (R66, R75, R87). -/
def State.enforceShadow (s : State) : State :=
  { s with
    epoch := { s.epoch with number := s.epoch.number + 1, offset := 0 }
    active := s.shadow
    commit := { s.commit with generation := nextNumber s.commit.generation }
    meters := clearConsumed (clearConsumed s.meters) }

/-- The record of a commit applied (R98). -/
def commitRecord (generation : Half) : RecordBody := partRecord .commitApplied (.active generation) none

theorem State.takeBoundary_pending {s : State} (pending : s.commit.state = .pending) :
    s.takeBoundary = (((s.enforceShadow.bump .commitsApplied).setStatus .commitApplied).logRecord
      (commitRecord (nextNumber s.commit.generation))).setCommit ⟨.idle, nextNumber s.commit.generation⟩ := by
  simp [State.takeBoundary, pending, State.applyCommit, State.setCommit, State.enforceShadow, commitRecord]

/-- A passive relation that holds as well for changes of the meters, the banks in force, the mode and the time, for noting a
fallback entry, and for a refusal that joins its queue. -/
structure PassiveRules (R : State → State → Prop) : Prop extends Passive R where
  setRules : ∀ s e b c ms m, R s
    { s with
      epoch := e
      active := b
      commit := c
      meters := ms
      control := { s.control with mode := m } }
  setFallbackRecord : ∀ s cause, R s (s.setFallbackRecord (s.nextFallbackRecord cause))
  leaveGoverned : ∀ s, R s s.leaveGoverned
  queueRefusal : ∀ s r, R s (State.queueRefusal r s)

section
variable {R : State → State → Prop} (passive : PassiveRules R) (s : State)
include passive

theorem PassiveRules.setMeter (m : Fin Config.meters) (x : Meter) : R s (s.setMeter m x) :=
  passive.setRules s s.epoch s.active s.commit (s.meters.set m.val x m.isLt) s.control.mode

theorem PassiveRules.decideBy (i : EntryIndex) (x : Txn) (a : RuleAction) : R s (s.decideBy i x a) := by
  cases a with
  | pass => exact passive.decidePass s i x
  | refuse => exact passive.decideRefuse s i x
  | hold limit d => exact passive.decideHold s i x limit d
  | meter m =>
    rcases passive.decideMeter s i x m with ⟨-, within⟩ | exceeded
    · exact passive.trans (passive.setMeter s m _) within
    · exact passive.trans (passive.setMeter s m _) exceeded

theorem PassiveRules.allocate (i : EntryIndex) (q : Request) (stamp : Stamp) : R s (s.allocate i q stamp) :=
  passive.trans (passive.trans (passive.setEntry s i _) (passive.bump _ _)) (passive.decideBy _ i _ _)

theorem PassiveRules.refuseAdmission (q : Request) (c : RefusalCause) : R s (s.refuseAdmission q c) :=
  passive.toPassive.refuseAdmission s passive.queueRefusal q c

theorem PassiveRules.setCommit (c : CommitControl) : R s (s.setCommit c) :=
  passive.setRules s s.epoch s.active c s.meters s.control.mode

theorem PassiveRules.takeBoundary : R s s.takeBoundary := by
  cases state : s.commit.state with
  | idle =>
    rw [State.takeBoundary_idle state]
    exact passive.setRules s _ s.active s.commit _ s.control.mode
  | pending =>
    have applied : R s s.enforceShadow := passive.setRules s _ _ _ _ s.control.mode
    have noted := passive.trans (passive.bump s.enforceShadow .commitsApplied) (passive.setStatus _ .commitApplied)
    rw [State.takeBoundary_pending state]
    exact passive.trans (passive.trans applied (passive.trans noted (passive.logRecord _ _))) (passive.setCommit _ _)

theorem PassiveRules.adoptEpochLength : R s s.adoptEpochLength := by
  unfold State.adoptEpochLength
  split
  · exact passive.takeBoundary s
  · exact passive.refl s

theorem PassiveRules.noteFallback (cause : FallbackCause) : R s (s.noteFallback cause) :=
  passive.trans (passive.trans (passive.setFallbackRecord s cause) (passive.setStatus _ _)) (passive.logRecord _ _)

theorem PassiveRules.fallbackSteps (cause : FallbackCause) : R s (s.fallbackSteps cause) := by
  have resolved := passive.trans (passive.leaveGoverned s)
    (passive.foldl s.leaveGoverned passive.resolveByFallback s.holdQueue)
  rw [State.fallbackSteps_eq]
  exact passive.trans (passive.trans resolved (passive.noteFallback _ cause)) (passive.adoptEpochLength _)

theorem PassiveRules.resumeGoverned : R s s.resumeGoverned := by
  have governed := passive.setRules s s.epoch s.active s.commit s.meters .governed
  exact passive.trans (passive.trans governed (passive.logRecord _ _)) (passive.adoptEpochLength _)

end
end Sys2Proof.Machine
end

section
/-! PROOFS. The banks, the fallback table, Commit Control, the meters, the mode and the Epoch Timer: what an event can do to
them, and the laws they keep. -/
namespace Sys2Proof.Machine

/-! ### The tables, the mode and the time are the same -/

/-- The banks, the fallback table, Commit Control, the meters, the mode, and the epoch's number and offset. -/
structure RuleState where
  number : Count
  offset : Nat
  active : Bank
  shadow : Bank
  fallback : FallbackTable
  commit : CommitControl
  meters : Vector Meter Config.meters
  mode : Mode

/-- What a state holds of them. -/
def State.ruleState (s : State) : RuleState :=
  ⟨s.epoch.number, s.epoch.offset, s.active, s.shadow, s.fallback, s.commit, s.meters, s.control.mode⟩

/-- Two states hold the same of them. -/
def SameRules (s t : State) : Prop := t.ruleState = s.ruleState

section
variable {s t u : State}

theorem SameRules.trans (h : SameRules s t) (k : SameRules t u) : SameRules s u := Eq.trans k h

theorem SameRules.number (h : SameRules s t) : t.epoch.number = s.epoch.number := congrArg RuleState.number h

theorem SameRules.offset (h : SameRules s t) : t.epoch.offset = s.epoch.offset := congrArg RuleState.offset h

theorem SameRules.active (h : SameRules s t) : t.active = s.active := congrArg RuleState.active h

theorem SameRules.shadow (h : SameRules s t) : t.shadow = s.shadow := congrArg RuleState.shadow h

theorem SameRules.fallback (h : SameRules s t) : t.fallback = s.fallback := congrArg RuleState.fallback h

theorem SameRules.commit (h : SameRules s t) : t.commit = s.commit := congrArg RuleState.commit h

theorem SameRules.meters (h : SameRules s t) : t.meters = s.meters := congrArg RuleState.meters h

theorem SameRules.mode (h : SameRules s t) : t.control.mode = s.control.mode := congrArg RuleState.mode h

theorem SameRules.epochLength (h : SameRules s t) : t.epochLength = s.epochLength := by
  simp only [State.epochLength, h.mode, h.active]

theorem SameRules.evalNotice (h : SameRules s t) : SameRules s t.evalNotice := by
  simpa [SameRules, State.ruleState] using h

theorem SameRules.setStatus (h : SameRules s t) (k : EventKind) : SameRules s (t.setStatus k) := by
  simpa [SameRules, State.ruleState] using h

theorem SameRules.logRecord (h : SameRules s t) (b : RecordBody) : SameRules s (t.logRecord b) := by
  simpa [SameRules, State.ruleState] using h

theorem SameRules.setLink (h : SameRules s t) (p : PortName) (l : Link) : SameRules s (t.setLink p l) := by
  simpa [SameRules, State.ruleState] using h

end

theorem sameRules_accept (s : State) (p : PortName) : SameRules s (s.accept p) := by
  simp [SameRules, State.ruleState]

theorem sameRules_passive : Passive SameRules where
  refl _ := rfl
  trans := SameRules.trans
  setStatus _ k := SameRules.setStatus rfl k
  clearStatus _ _ := rfl
  logRecord _ b := SameRules.logRecord rfl b
  bumpBy _ _ _ := rfl
  setEntry _ _ _ := rfl
  joinReturns _ _ := rfl
  setNode _ _ := rfl
  setHolds _ _ := rfl

theorem sameRules_queueRefusal (s : State) (r : AdmissionRefusal) : SameRules s (s.queueRefusal r) := by
  unfold State.queueRefusal
  split
  · rfl
  · exact sameRules_passive.bump s _

theorem sameRules_openFor (s : State) (h : CommandHeader) : SameRules s (s.openFor h) := by
  have started : SameRules s (s.startSession h.source) := SameRules.evalNotice rfl
  exact started

/-! ### How an event can move them -/

/-- What an event can do to the tables, the meters, the mode and the time; a change of mode ends with the epoch length. -/
inductive RulesStep (s : State) : State → Prop
  | nothing : RulesStep s s
  | meters (ms : Vector Meter Config.meters) (law : MeterLaw s → MeterLaw { s with meters := ms }) :
      RulesStep s { s with meters := ms }
  | shadow (b : Bank) (idle : s.commit.state = .idle) (legal : s.active.Legal → s.shadow.Legal → b.Legal) :
      RulesStep s { s with shadow := b }
  | fallback (f : FallbackTable) (legal : s.fallback.Legal → f.Legal) : RulesStep s { s with fallback := f }
  | commit (c : CommitControl) (fits : c.state = .pending → s.shadow.windowFault = none) :
      RulesStep s { s with commit := c }
  | epoch (e : EpochTimer) (number : e.number = s.epoch.number)
      (offset : e.offset = s.epoch.offset ∨ e.offset < s.epochLength) : RulesStep s { s with epoch := e }
  | boundary : RulesStep s s.takeBoundary
  | mode (u : State) (m : Mode) (c : CommitControl) (kept : c.state = .pending → c = s.commit)
      (changed : SameRules { s.setMode m with commit := c } u) : RulesStep s u.adoptEpochLength

/-- The tables, the meters, the mode and the time move by one step, with nothing done to them before and after. -/
def RulesMove (s t : State) : Prop := ∃ u v, SameRules s u ∧ RulesStep u v ∧ SameRules v t

section
variable {s t u : State}

theorem RulesStep.move (h : RulesStep s t) : RulesMove s t := ⟨s, t, rfl, h, rfl⟩

theorem SameRules.move (h : SameRules s t) : RulesMove s t := ⟨t, t, h, .nothing, rfl⟩

theorem RulesMove.before (h : SameRules s t) (k : RulesMove t u) : RulesMove s u := by
  obtain ⟨v, w, before, moves, after⟩ := k
  exact ⟨v, w, h.trans before, moves, after⟩

theorem RulesMove.after (h : RulesMove s t) (k : SameRules t u) : RulesMove s u := by
  obtain ⟨v, w, before, moves, after⟩ := h
  exact ⟨v, w, before, moves, after.trans k⟩

end

/-! ### Each event moves them so -/

section
variable {s : State}

theorem MeterLaw.setMeter (law : MeterLaw s) {m : Fin Config.meters} {x : Meter}
    (within : x.consumed.toNat ≤ (s.active.params.meters[m]).budget.toNat) : MeterLaw (s.setMeter m x) := by
  intro k
  by_cases same : k = m
  case pos => subst same; simpa [State.setMeter] using within
  case neg =>
    have other : m.val ≠ k.val := fun equal => same (Fin.ext equal.symm)
    simpa [State.setMeter, other] using law k

theorem rulesMove_decideMeter (i : EntryIndex) (x : Txn) (m : Fin Config.meters) :
    RulesMove s (s.decideMeter i x m) := by
  rcases sameRules_passive.decideMeter s i x m with ⟨within, rest⟩ | rest
  case inl =>
    have below : s.meters[m].consumed.toNat < (s.active.params.meters[m]).budget.toNat := of_decide_eq_true within
    have counted : (s.meters[m].consumed + 1).toNat = s.meters[m].consumed.toNat + 1 :=
      BitVec.toNat_add_of_lt (Nat.lt_of_le_of_lt below (s.active.params.meters[m]).budget.isLt)
    exact RulesMove.after (RulesStep.meters _ fun law => law.setMeter (counted ▸ below)).move rest
  case inr =>
    have kept : MeterLaw s → MeterLaw (s.setMeter m { s.meters[m] with exceed := s.meters[m].exceed + 1 }) :=
      fun law => law.setMeter (law m)
    exact (RulesStep.meters _ kept).move.after rest

/-- Clearing exceed counts leaves the consumed counts (R77). -/
theorem clearExceed_foldl (ms : List (Fin Config.meters)) : ∀ s : State, ∃ after,
    ms.foldl State.clearExceed s = { s with meters := after } ∧ (MeterLaw s → MeterLaw { s with meters := after }) := by
  induction ms with
  | nil => exact fun s => ⟨s.meters, rfl, id⟩
  | cons m ms ih =>
    intro s
    obtain ⟨after, folded, law⟩ := ih (s.clearExceed m)
    exact ⟨after, folded, fun before => law (before.setMeter (x := { s.meters[m] with exceed := 0 }) (before m))⟩

theorem rulesMove_decideBy (i : EntryIndex) (x : Txn) (a : RuleAction) : RulesMove s (s.decideBy i x a) := by
  cases a with
  | pass => exact (sameRules_passive.decidePass s i x).move
  | refuse => exact (sameRules_passive.decideRefuse s i x).move
  | hold limit d => exact (sameRules_passive.decideHold s i x limit d).move
  | meter m => exact rulesMove_decideMeter i x m

theorem rulesMove_allocate (i : EntryIndex) (q : Request) (stamp : Stamp) : RulesMove s (s.allocate i q stamp) := by
  have given : SameRules s (State.bump .requestsAdmitted (s.setEntry i ⟨s.generation i + 1, .free⟩)) := rfl
  exact RulesMove.before given (rulesMove_decideBy i _ _)

/-- A fallback entry changes the mode, cancels a pending commit, and ends with the epoch length (R160). -/
theorem rulesMove_enterFallback (cause : FallbackCause) : RulesMove s (s.enterFallback cause) := by
  have resolved := sameRules_passive.foldl s.leaveGoverned sameRules_passive.resolveByFallback s.holdQueue
  have recorded : SameRules s.leaveGoverned (State.setFallbackRecord (State.nextFallbackRecord cause
      (s.holdQueue.foldl State.resolveByFallback s.leaveGoverned))
      (s.holdQueue.foldl State.resolveByFallback s.leaveGoverned)) := resolved
  have steps : RulesMove s (s.fallbackSteps cause) := by
    rw [State.fallbackSteps_eq]
    exact (RulesStep.mode _ .fallback { s.commit with state := .idle } (by simp)
      ((recorded.setStatus _).logRecord _)).move
  exact steps.after (SameRules.evalNotice rfl)

theorem rulesMove_execution {t : State} (execution : Execution s t) : RulesMove s t := by
  cases execution with
  | nothing => exact RulesStep.nothing.move
  | loadsShadow b idle legal => exact (RulesStep.shadow b idle legal).move
  | loadsFallback f legal => exact (RulesStep.fallback f legal).move
  | commits mode fits => exact (RulesStep.commit _ fun _ => fits).move
  | aborts => exact (RulesStep.commit { s.commit with state := .idle } (by simp)).move
  | releases i x => exact (sameRules_passive.releaseHold s i x).move
  | denies i x => exact (sameRules_passive.denyHold s i x).move
  | clearsExceed ms =>
    obtain ⟨after, cleared, law⟩ := clearExceed_foldl ms s
    exact cleared ▸ (RulesStep.meters after law).move
  | writesEvents | acknowledges => exact SameRules.move (SameRules.evalNotice rfl)
  | entersFallback => exact rulesMove_enterFallback .command
  | resumes =>
    have recorded : SameRules (s.setMode .governed) s.recordResume := SameRules.logRecord rfl _
    exact (RulesStep.mode _ .governed s.commit (fun _ => rfl) recorded).move
  | editsEpoch e number offset => exact (RulesStep.epoch e number offset).move
  | editsLog | readsCounters | clearsEvents | setsInterval | setsPeriod | awaitsReset =>
    exact SameRules.move rfl

theorem rulesMove_effect {t : State} (effect : FrameEffect s t) : RulesMove s t := by
  cases effect with
  | refused q c => exact (sameRules_passive.refuseAdmission s sameRules_queueRefusal q c).move
  | allocated q stamp i => exact rulesMove_allocate i q stamp
  | answered i x d inFlight a => exact (sameRules_passive.becomeReturning s i x a).move
  | stray r => exact (sameRules_passive.takeStray s r).move
  | overrun => exact (sameRules_passive.bump s _).move
  | opens h => exact (sameRules_openFor s h).move
  | takesOver h => exact (SameRules.trans rfl (sameRules_openFor s.withdrawNotice h)).move
  | executes code h o r room opened execution =>
    exact (rulesMove_execution execution).after rfl
  | discarded | turnedAway | duplicate | closes => exact SameRules.move rfl

theorem rulesMove_event {t : State} (event : Event s t) : RulesMove s t := by
  cases event with
  | nothing => exact RulesStep.nothing.move
  | relinked p l => exact (SameRules.setLink rfl p l).move
  | dropped p l c => exact ((sameRules_passive.bump s c).setLink p l).move
  | linkChanged p l => exact ((SameRules.setLink rfl p l).setStatus _).move
  | nodeLeavesUp => exact (sameRules_passive.nodeLeavesUp s).move
  | launched i => exact ((sameRules_passive.setNode s _).trans (sameRules_passive.launch _ i)).move
  | responseExpired i x => exact ((sameRules_passive.becomeReturning s i x _).setStatus _).move
  | holdExpired i x hold =>
    exact ((sameRules_passive.noteExpiry s i x _).trans (sameRules_passive.applyDefault _ i x _)).move
  | boundary => exact RulesStep.boundary.move
  | restarted =>
    have captured : SameRules s s.captureSync := rfl
    exact RulesMove.before captured RulesStep.boundary.move
  | warned =>
    have warned : SameRules s s.warnLiveness := SameRules.setStatus rfl _
    exact warned.move
  | lost =>
    cases mode : s.control.mode with
    | fallback => rw [State.loseSession_fallback mode]; exact SameRules.move rfl
    | governed =>
      rw [State.loseSession_governed mode]
      have ended : SameRules s s.endSession := rfl
      exact RulesMove.before ended (rulesMove_enterFallback .liveness)
  | ticked below =>
    exact RulesMove.after (RulesStep.epoch ⟨s.epoch.number, s.epoch.offset + 1, s.epoch.sync, s.epoch.capture⟩ rfl
      (.inr below)).move rfl
  | tickedOver =>
    have passed : SameRules s { s with now := s.now + 1 } := rfl
    exact RulesMove.before passed RulesStep.boundary.move
  | accepted p t effect => exact RulesMove.before (sameRules_accept s p) (rulesMove_effect effect)
  | synced | resent => exact SameRules.move rfl

/-- The S-port's completions and its loss leave the tables, the meters, the mode and the time alone. -/
theorem sameRules_stationEvent {front : Option Instr} {t : State} (event : StationEvent front s t) : SameRules s t := by
  cases event with
  | leavesUp => exact SameRules.setStatus rfl _
  | nothing | nothingToSend | nextPart | replySent | noticeSent | answerSent | refusalSent =>
    exact rfl

end
end Sys2Proof.Machine
end

section
/-! PROOFS. The laws of the meters, of the windows and of the rules. -/
namespace Sys2Proof.Machine

/-! ### A boundary -/

theorem State.takeBoundary_rules_idle {s : State} (idle : s.commit.state = .idle) :
    SameRules
      { s with
        epoch := { s.epoch with number := s.epoch.number + 1, offset := 0 }
        meters := clearConsumed s.meters } s.takeBoundary := by rw [State.takeBoundary_idle idle]; rfl

/-- A boundary with a commit pending makes the shadow bank active (R87). -/
theorem State.takeBoundary_rules_pending {s : State} (pending : s.commit.state = .pending) :
    SameRules
      { s with
        epoch := { s.epoch with number := s.epoch.number + 1, offset := 0 }
        active := s.shadow
        commit := ⟨.idle, nextNumber s.commit.generation⟩
        meters := clearConsumed (clearConsumed s.meters) } s.takeBoundary := by
  rw [State.takeBoundary_pending pending]
  simp [SameRules, State.ruleState, State.setCommit, State.enforceShadow]

theorem State.adoptEpochLength_cases (s : State) : s.adoptEpochLength = s.takeBoundary ∧ s.epochLength ≤ s.epoch.offset
    ∨ s.adoptEpochLength = s ∧ s.epoch.offset < s.epochLength := by
  unfold State.adoptEpochLength
  split
  case isTrue reached => exact .inl ⟨rfl, reached⟩
  case isFalse below => exact .inr ⟨rfl, Nat.lt_of_not_le below⟩

/-! ### What the steps of the tables keep, every step keeps -/

/-- A law about the tables, the meters, the mode and the time alone is kept when their steps and the resets keep it. -/
theorem kept_of_rules {P : State → Prop} (same : ∀ {s t : State}, SameRules s t → P s → P t)
    (moves : ∀ {s t : State}, RulesStep s t → P s → P t)
    (powerOn : ∀ straps start choices pending, P (State.powerOn straps start choices pending))
    (reset : ∀ {s : State}, P s → P s.managementReset) : Kept P where
  queue _ _ := same rfl
  powerOn := powerOn
  heldLow := same rfl
  settle := same rfl
  reset := reset
  event law event := by
    obtain ⟨u, v, before, moving, after⟩ := rulesMove_event event
    exact same after (moves moving (same before law))
  station law event := same (sameRules_stationEvent event) law

/-! ### The meters (R74) -/

section
variable {s t : State}

theorem MeterLaw.of_same (same : SameRules s t) (law : MeterLaw s) : MeterLaw t := by
  intro m
  rw [same.meters, same.active]
  exact law m

theorem meterLaw_of_cleared (cleared : ∀ m : Fin Config.meters, t.meters[m].consumed = 0) : MeterLaw t := by
  intro m
  rw [cleared m]
  exact Nat.zero_le _

theorem meterLaw_takeBoundary (s : State) : MeterLaw s.takeBoundary := by
  refine meterLaw_of_cleared fun m => ?_
  cases state : s.commit.state with
  | idle => rw [(State.takeBoundary_rules_idle state).meters, clearConsumed_getElem]
  | pending => rw [(State.takeBoundary_rules_pending state).meters, clearConsumed_getElem]

theorem MeterLaw.adoptEpochLength (law : MeterLaw s) : MeterLaw s.adoptEpochLength := by
  rcases State.adoptEpochLength_cases s with ⟨moves, -⟩ | ⟨stays, -⟩
  · exact moves ▸ meterLaw_takeBoundary s
  · exact stays.symm ▸ law

theorem MeterLaw.rulesStep (moves : RulesStep s t) (law : MeterLaw s) : MeterLaw t := by
  cases moves with
  | meters ms kept => exact kept law
  | boundary => exact meterLaw_takeBoundary s
  | mode u m c kept changed => exact (law.of_same (s := { s.setMode m with commit := c }) changed).adoptEpochLength
  | nothing | shadow | fallback | commit | epoch => exact law

theorem meterLaw_kept : Kept MeterLaw :=
  kept_of_rules MeterLaw.of_same MeterLaw.rulesStep
    (fun straps start choices pending => meterLaw_of_cleared fun m => by simp [State.powerOn, resetMeters])
    fun _ => meterLaw_of_cleared fun m => by simp [State.managementReset, resetMeters]

end

/-- Settles O54, over what an event can do to the meters: a decision counts only below the budget, and whatever makes
another bank active also resets the counts. -/
theorem meterLawIsKept : Obligations.MeterLawIsKept := fun _ _ law runs => meterLaw_kept.step law runs

/-! ### The windows (R84, R87) -/

section
variable {s t : State}

theorem firstWindowFault_eq_none {length : Nat} (slots : List (Option Rule)) :
    ∀ start, firstWindowFault length start slots = none → ∀ slot ∈ slots, SlotFits length slot := by
  induction slots with
  | nil => exact fun _ _ _ => nofun
  | cons slot rest ih =>
    intro start noFault
    have fits : SlotFits length slot := by
      intro r w hr hw
      subst hr
      have hopen : w.openOffset < length := by
        refine Nat.not_le.1 fun high => ?_
        rw [firstWindowFault_cons_of_fault hw (windowFault_open high)] at noFault
        cases noFault
      refine ⟨hopen, ?_⟩
      refine Nat.not_le.1 fun high => ?_
      rw [firstWindowFault_cons_of_fault hw (windowFault_close hopen high)] at noFault
      cases noFault
    rw [firstWindowFault_cons_of_fits fits] at noFault
    exact List.forall_mem_cons.2 ⟨fits, ih _ noFault⟩

theorem Bank.windowsFit_of_noFault {b : Bank} (noFault : b.windowFault = none) : b.WindowsFit := by
  intro n r w hr hw
  have member : b.slots[n] ∈ b.slots.toList := by simp
  exact firstWindowFault_eq_none _ 0 noFault _ member r w hr hw

theorem WindowLaw.of_same (same : SameRules s t) (law : WindowLaw s) : WindowLaw t := by
  unfold WindowLaw
  rw [same.active, same.shadow, same.commit]
  exact law

theorem WindowLaw.takeBoundary (law : WindowLaw s) : WindowLaw s.takeBoundary := by
  obtain ⟨active, frozen⟩ := law
  cases state : s.commit.state with
  | idle =>
    refine WindowLaw.of_same (State.takeBoundary_rules_idle state) ⟨active, fun pending => ?_⟩
    exact frozen pending
  | pending => exact WindowLaw.of_same (State.takeBoundary_rules_pending state) ⟨frozen state, nofun⟩

theorem WindowLaw.adoptEpochLength (law : WindowLaw s) : WindowLaw s.adoptEpochLength := by
  rcases State.adoptEpochLength_cases s with ⟨moves, -⟩ | ⟨stays, -⟩
  · exact moves ▸ law.takeBoundary
  · exact stays.symm ▸ law

theorem WindowLaw.rulesStep (moves : RulesStep s t) (law : WindowLaw s) : WindowLaw t := by
  obtain ⟨active, frozen⟩ := id law
  cases moves with
  | shadow b idle legal => exact ⟨active, fun pending => absurd (idle.symm.trans pending) nofun⟩
  | commit c fits => exact ⟨active, fun pending => Bank.windowsFit_of_noFault (fits pending)⟩
  | boundary => exact law.takeBoundary
  | mode u m c kept changed =>
    have changing : WindowLaw { s.setMode m with commit := c } :=
      ⟨active, fun pending => frozen (kept pending ▸ pending)⟩
    exact (changing.of_same changed).adoptEpochLength
  | nothing | meters | fallback | epoch => exact law

theorem resetBank_windowsFit : resetBank.WindowsFit := by
  intro n r w hr
  simp [resetBank] at hr

theorem windowLaw_kept : Kept WindowLaw :=
  kept_of_rules WindowLaw.of_same WindowLaw.rulesStep (fun _ _ _ _ => ⟨resetBank_windowsFit, nofun⟩)
    fun _ => ⟨resetBank_windowsFit, nofun⟩

/-- The active bank is the same, or a boundary has made the shadow bank active for a pending commit (R87). -/
def ActiveMoves (s t : State) : Prop :=
  t.active = s.active ∨ s.commit.state = .pending ∧ t.active = s.shadow ∧ t.epoch.number = s.epoch.number + 1

theorem activeMoves_takeBoundary (s : State) : ActiveMoves s s.takeBoundary := by
  cases state : s.commit.state with
  | idle => exact .inl (State.takeBoundary_rules_idle state).active
  | pending =>
    have applied := State.takeBoundary_rules_pending state
    exact .inr ⟨state, applied.active, applied.number⟩

theorem activeMoves_adoptEpochLength (s : State) : ActiveMoves s s.adoptEpochLength := by
  rcases State.adoptEpochLength_cases s with ⟨moves, -⟩ | ⟨stays, -⟩
  · exact moves ▸ activeMoves_takeBoundary s
  · exact stays.symm ▸ .inl rfl

theorem activeMoves_rulesStep (moves : RulesStep s t) : ActiveMoves s t := by
  cases moves with
  | boundary => exact activeMoves_takeBoundary s
  | mode u m c kept changed =>
    rcases activeMoves_adoptEpochLength u with same | ⟨pending, active, number⟩
    · exact .inl (same.trans changed.active)
    · have commit : u.commit = c := changed.commit
      rw [commit] at pending
      refine .inr ⟨kept pending ▸ pending, active.trans changed.shadow, ?_⟩
      rw [number, changed.number]; rfl
  | nothing | meters | shadow | fallback | commit | epoch => exact .inl rfl

theorem ActiveMoves.of_same {u v : State} (before : SameRules s u) (moves : ActiveMoves u v) (after : SameRules v t) :
    ActiveMoves s t := by
  unfold ActiveMoves at moves ⊢
  rwa [after.active, after.number, ← before.active, ← before.commit, ← before.shadow, ← before.number]

end

/-- Settles O55: the law is kept because COMMIT freezes a shadow bank without a window fault; the active bank changes at a
boundary with a commit pending, or by a reset. -/
theorem windowLawIsKept : Obligations.WindowLawIsKept := by
  intro s t law runs
  refine ⟨windowLaw_kept.step law runs, ?_⟩
  obtain ⟨choices, outcome⟩ := outcome_step runs
  cases outcome with
  | powerOn => exact .inr (.inr ⟨rfl, rfl⟩)
  | heldLow | held => exact .inl rfl
  | resets => exact .inr (.inr ⟨rfl, rfl⟩)
  | station u _ event => exact .inl (sameRules_stationEvent event).active
  | event u _ _ event =>
    obtain ⟨v, w, before, moving, after⟩ := rulesMove_event event
    rcases (activeMoves_rulesStep moving).of_same before after with same | boundary
    · exact .inl same
    · exact .inr (.inl boundary)

/-! ### The rules (R23 to R26, R64) -/

section
variable {s t : State}

theorem RuleLaw.of_same (same : SameRules s t) (law : RuleLaw s) : RuleLaw t := by
  constructor
  case active => exact same.active ▸ law.active
  case shadow => exact same.shadow ▸ law.shadow
  case fallback => exact same.fallback ▸ law.fallback
  case offset => rw [same.offset, same.epochLength]; exact law.offset

theorem epochLength_pos (legal : s.active.Legal) : 0 < s.epochLength := by
  cases mode : s.control.mode with
  | governed => simpa only [State.epochLength, mode] using Nat.lt_of_lt_of_le (by decide) legal.epochLength.1
  | fallback => simp [State.epochLength, mode]

/-- A boundary leaves legal tables legal, and the offset 0. -/
theorem ruleLaw_takeBoundary (active : s.active.Legal) (shadow : s.shadow.Legal) (fallback : s.fallback.Legal) :
    RuleLaw s.takeBoundary := by
  cases state : s.commit.state with
  | idle =>
    exact RuleLaw.of_same (State.takeBoundary_rules_idle state) ⟨active, shadow, fallback, epochLength_pos (s := { s with
      epoch := _, meters := _ }) active⟩
  | pending =>
    exact RuleLaw.of_same (State.takeBoundary_rules_pending state) ⟨shadow, shadow, fallback, epochLength_pos (s := { s
      with epoch := _, active := s.shadow, commit := _, meters := _ }) shadow⟩

theorem ruleLaw_adoptEpochLength (active : s.active.Legal) (shadow : s.shadow.Legal) (fallback : s.fallback.Legal) :
    RuleLaw s.adoptEpochLength := by
  rcases State.adoptEpochLength_cases s with ⟨moves, -⟩ | ⟨stays, below⟩
  · exact moves ▸ ruleLaw_takeBoundary active shadow fallback
  · exact stays.symm ▸ ⟨active, shadow, fallback, below⟩

theorem RuleLaw.rulesStep (moves : RulesStep s t) (law : RuleLaw s) : RuleLaw t := by
  obtain ⟨active, shadow, fallback, below⟩ := id law
  cases moves with
  | shadow b idle legal => exact ⟨active, legal active shadow, fallback, below⟩
  | fallback f legal => exact ⟨active, shadow, legal fallback, below⟩
  | epoch e number offset => exact ⟨active, shadow, fallback, offset.elim (fun same => same ▸ below) id⟩
  | boundary => exact ruleLaw_takeBoundary active shadow fallback
  | mode u m c kept changed =>
    exact ruleLaw_adoptEpochLength (changed.active ▸ active) (changed.shadow ▸ shadow) (changed.fallback ▸ fallback)
  | nothing | meters | commit => exact ⟨active, shadow, fallback, below⟩

theorem resetBank_legal : resetBank.Legal :=
  ⟨fun n r hr => by simp [resetBank] at hr, by decide, by decide⟩

theorem powerOnFallbackTable_legal : powerOnFallbackTable.Legal :=
  ⟨fun n r hr => by simp [powerOnFallbackTable] at hr, by decide⟩

theorem ruleLaw_kept : Kept RuleLaw :=
  kept_of_rules RuleLaw.of_same RuleLaw.rulesStep
    (fun _ _ _ _ =>
      ⟨resetBank_legal, resetBank_legal, powerOnFallbackTable_legal, epochLength_pos resetBank_legal⟩)
    fun law => ⟨resetBank_legal, resetBank_legal, law.fallback, epochLength_pos resetBank_legal⟩

end

/-- Settles O56, over what an event can do to the tables: each write is checked field by field, and the offset is below the
epoch length after each boundary, alignment and change of mode. -/
theorem ruleLawIsKept : Obligations.RuleLawIsKept := fun _ _ law runs => ruleLaw_kept.step law runs

end Sys2Proof.Machine
end

section
/-! PROOFS. The session, the notice sender and the S-port's queues: what an event can do to them, the law of the session,
and the transmitters. -/
namespace Sys2Proof.Machine

/-! ### What the S-port and the notice sender have -/

/-- The open session and its number, the liveness timer, the notice sender with the statuses it looks at, and the S-port's
queues and transmitter. -/
structure TalkState where
  current : Option OpenSession
  number : Half
  liveness : LivenessState
  sender : NoticeState
  due : EventSet
  replies : List Reply
  slot : Option Notice
  returns : List EntryIndex
  refusals : List AdmissionRefusal
  sending : Option Sending

/-- What a state has of them. -/
def State.talkState (s : State) : TalkState :=
  ⟨s.session.current, s.session.number, s.control.liveness, s.notice.state, s.events.noticeSet, s.sPort.replies,
    s.sPort.slot, s.sPort.returns, s.sPort.refusals, s.sPort.sending⟩

/-- Two states have the same of them. -/
def SameTalk (s t : State) : Prop := t.talkState = s.talkState

/-- The law of the session, but for a notice that is due. -/
structure SessionAlmost (s : State) : Prop where
  timed : s.session.current = none ↔ s.control.liveness = .disarmed
  senderIdle : s.session.current = none → s.notice.state = .idle
  slotOwned : ∀ n, s.sPort.slot = some n → ∃ o, s.session.current = some o ∧ n.destination = o.owner

/-- The S-port's transmitter goes on and its queues keep their heads: references and replies join at the tail, and a NOTICE
under transmission stays in the slot of an open session (R172, R173). -/
structure GoesOn (s t : State) : Prop where
  sending : t.sPort.sending = s.sPort.sending
  session : s.sPort.sending = some .notice → s.session.current.isSome = true →
    t.session.current.isSome = true ∧ t.session.number = s.session.number
  slot : s.sPort.sending = some .notice → t.sPort.slot = s.sPort.slot
  replies : s.sPort.replies <+: t.sPort.replies
  returns : s.sPort.returns <+: t.sPort.returns
  refusals : s.sPort.refusals <+: t.sPort.refusals

/-- Nothing happens to the session and its timer, and to the S-port no more than that answers, refusals and a NOTICE of the
open session join its queues. -/
structure Quiet (s t : State) : Prop where
  current : t.session.current = s.session.current
  number : t.session.number = s.session.number
  liveness : t.control.liveness = s.control.liveness
  sending : t.sPort.sending = s.sPort.sending
  slot : s.sPort.sending = some .notice → t.sPort.slot = s.sPort.slot
  closed : s.session.current = none → s.sPort.slot = none → t.sPort.slot = none
  replies : t.sPort.replies = s.sPort.replies
  returns : s.sPort.returns <+: t.sPort.returns
  refusals : s.sPort.refusals <+: t.sPort.refusals
  law : SessionLaw s → SessionLaw t

section
variable {s t u : State}

theorem SessionLaw.almost (law : SessionLaw s) : SessionAlmost s := ⟨law.timed, law.senderIdle, law.slotOwned⟩

theorem SessionAlmost.of_eq (almost : SessionAlmost s) (current : t.session.current = s.session.current)
    (liveness : t.control.liveness = s.control.liveness) (sender : t.notice.state = s.notice.state)
    (slot : t.sPort.slot = s.sPort.slot) : SessionAlmost t := by
  obtain ⟨timed, senderIdle, slotOwned⟩ := almost
  constructor
  case timed => rw [current, liveness]; exact timed
  case senderIdle => rw [current, sender]; exact senderIdle
  case slotOwned => rw [current, slot]; exact slotOwned

theorem SessionLaw.of_same (law : SessionLaw s) (same : SameTalk s t) : SessionLaw t := by
  simp only [SameTalk, State.talkState, TalkState.mk.injEq] at same
  obtain ⟨current, -, liveness, sender, due, -, slot, -, -, -⟩ := same
  obtain ⟨timed, senderIdle, slotOwned⟩ := law.almost.of_eq current liveness sender slot
  refine ⟨timed, senderIdle, slotOwned, ?_⟩
  rw [current, sender, due]
  exact law.served

theorem GoesOn.of_same (same : SameTalk s t) : GoesOn s t := by
  simp only [SameTalk, State.talkState, TalkState.mk.injEq] at same
  obtain ⟨current, number, -, -, -, replies, slot, returns, refusals, sending⟩ := same
  exact ⟨sending, fun _ opened => ⟨current ▸ opened, number⟩, fun _ => slot, replies ▸ List.prefix_rfl,
    returns ▸ List.prefix_rfl, refusals ▸ List.prefix_rfl⟩

theorem Quiet.of_same (same : SameTalk s t) : Quiet s t := by
  have law := fun before : SessionLaw s => before.of_same same
  obtain ⟨sending, -, -, -, returns, refusals⟩ := GoesOn.of_same same
  simp only [SameTalk, State.talkState, TalkState.mk.injEq] at same
  obtain ⟨current, number, liveness, -, -, replies, slot, -, -, -⟩ := same
  exact ⟨current, number, liveness, sending, fun _ => slot, fun _ empty => slot.trans empty, replies, returns,
    refusals, law⟩

theorem Quiet.goesOn (quiet : Quiet s t) : GoesOn s t :=
  ⟨quiet.sending, fun _ opened => ⟨quiet.current ▸ opened, quiet.number⟩, quiet.slot, quiet.replies ▸ List.prefix_rfl,
    quiet.returns, quiet.refusals⟩

theorem GoesOn.trans (first : GoesOn s t) (second : GoesOn t u) : GoesOn s u := by
  constructor
  case sending => exact second.sending.trans first.sending
  case session =>
    intro notice opened
    obtain ⟨still, number⟩ := first.session notice opened
    obtain ⟨stays, same⟩ := second.session (first.sending.trans notice) still
    exact ⟨stays, same.trans number⟩
  case slot => exact fun notice => (second.slot (first.sending.trans notice)).trans (first.slot notice)
  case replies => exact first.replies.trans second.replies
  case returns => exact first.returns.trans second.returns
  case refusals => exact first.refusals.trans second.refusals

theorem Quiet.trans (first : Quiet s t) (second : Quiet t u) : Quiet s u where
  current := second.current.trans first.current
  number := second.number.trans first.number
  liveness := second.liveness.trans first.liveness
  sending := second.sending.trans first.sending
  slot notice := (second.slot (first.sending.trans notice)).trans (first.slot notice)
  closed none empty := second.closed (first.current.trans none) (first.closed none empty)
  replies := second.replies.trans first.replies
  returns := first.returns.trans second.returns
  refusals := first.refusals.trans second.refusals
  law := second.law ∘ first.law

/-! ### The notice condition (R117) -/

theorem State.evalNotice_cases (s : State) :
    s.evalNotice = s ∧ (s.session.current.isSome = true → s.notice.state = .idle → s.events.noticeSet = 0)
      ∨ ∃ o, s.session.current = some o ∧ s.evalNotice = s.makeNotice o.owner := by
  cases current : s.session.current with
  | none => exact .inl ⟨State.evalNotice_closed current, nofun⟩
  | some o =>
    cases sender : s.notice.state with
    | awaitingAck d => exact .inl ⟨by simp only [State.evalNotice, State.noticeDue, current, sender], fun _ => nofun⟩
    | idle =>
      by_cases due : s.events.noticeSet = 0
      · exact .inl ⟨by simp [State.evalNotice, State.noticeDue, current, sender, due], fun _ _ => due⟩
      · have owed : s.noticeDue = some o.owner := by simp only [State.noticeDue, current, sender, if_neg due]
        exact .inr ⟨o, rfl, by simp only [State.evalNotice, owed]⟩

/-- A NOTICE placed goes to the owner of the open session (R118). -/
theorem placeNotice_owned {o : OpenSession} (current : s.session.current = some o)
    (slotOwned : ∀ n, s.sPort.slot = some n → ∃ o, s.session.current = some o ∧ n.destination = o.owner) {number : Byte}
    {n : Notice} (placed : s.placeNotice o.owner number = some n) :
    ∃ p, s.session.current = some p ∧ n.destination = p.owner := by
  unfold State.placeNotice at placed
  split at placed
  case isTrue => exact slotOwned n placed
  case isFalse => exact ⟨o, current, by cases placed; rfl⟩

/-- The evaluation of the notice condition makes the notice that is due. -/
theorem SessionAlmost.evalNotice (almost : SessionAlmost s) : SessionLaw s.evalNotice := by
  obtain ⟨timed, senderIdle, slotOwned⟩ := almost
  rcases s.evalNotice_cases with ⟨same, served⟩ | ⟨o, current, made⟩
  case inl => rw [same]; exact ⟨timed, senderIdle, slotOwned, served⟩
  case inr =>
    rw [made]
    refine ⟨timed, fun closed => absurd (current.symm.trans closed) nofun, fun n placed => ?_, fun _ => nofun⟩
    exact placeNotice_owned current slotOwned placed

/-- The notice condition is evaluated on a state in which only the sender's own condition has changed. -/
theorem quiet_evalNotice (almost : SessionLaw s → SessionAlmost t) (current : t.session.current = s.session.current)
    (number : t.session.number = s.session.number) (liveness : t.control.liveness = s.control.liveness)
    (sending : t.sPort.sending = s.sPort.sending)
    (slot : s.sPort.sending = some .notice → t.sPort.slot = s.sPort.slot)
    (closed : s.sPort.slot = none → t.sPort.slot = none)
    (replies : t.sPort.replies = s.sPort.replies) (returns : s.sPort.returns <+: t.sPort.returns)
    (refusals : s.sPort.refusals <+: t.sPort.refusals) : Quiet s t.evalNotice := by
  constructor
  case slot =>
    intro notice
    rcases t.evalNotice_cases with ⟨same, -⟩ | ⟨o, -, made⟩
    · rw [same]; exact slot notice
    · have kept : (t.makeNotice o.owner).sPort.slot = t.sPort.slot := by
        simp [State.makeNotice, State.placeNotice, sending, notice]
      rw [made, kept]
      exact slot notice
  case closed =>
    intro none empty
    rw [State.evalNotice_closed (current.trans none)]
    exact closed empty
  case law => exact fun law => (almost law).evalNotice
  all_goals simpa

theorem quiet_setStatus (s : State) (k : EventKind) : Quiet s (s.setStatus k) :=
  quiet_evalNotice (fun law => law.almost.of_eq rfl rfl rfl rfl) rfl rfl rfl rfl (fun _ => rfl) id rfl List.prefix_rfl
    List.prefix_rfl

theorem quiet_logRecord (s : State) (b : RecordBody) : Quiet s (s.logRecord b) := by
  have put (records : List LogRecord) : Quiet s (s.putRecords records) := Quiet.of_same rfl
  have lost (u : State) : Quiet u u.accountLoss := by
    have counted : Quiet u (State.bump .logRecordsLost { u with log := { u.log with lostCount := u.log.lostCount + 1 } }) :=
      Quiet.of_same rfl
    exact counted.trans (quiet_setStatus _ _)
  have judged (u : State) : Quiet u u.judgeThreshold := by
    unfold State.judgeThreshold
    split
    · exact quiet_setStatus u _
    · exact Quiet.of_same rfl
  unfold State.logRecord
  split
  · exact (put _).trans (judged _)
  · split
    · exact (put _).trans (lost _)
    · exact (put _).trans (lost _)

/-- Statuses that are only cleared make no notice due. -/
theorem quiet_clear (s : State) (mask : EventSet) :
    Quiet s { s with events := { s.events with status := s.events.status &&& mask } } where
  current := rfl
  number := rfl
  liveness := rfl
  sending := rfl
  slot _ := rfl
  closed _ empty := empty
  replies := rfl
  returns := List.prefix_rfl
  refusals := List.prefix_rfl
  law law := by
    refine ⟨law.timed, law.senderIdle, law.slotOwned, fun opened idle => ?_⟩
    have none : s.events.status &&& s.events.enable &&& ~~~s.events.line = 0 := law.served opened idle
    have masked : s.events.status &&& mask &&& s.events.enable &&& ~~~s.events.line
        = mask &&& (s.events.status &&& s.events.enable &&& ~~~s.events.line) := by
      rw [BitVec.and_comm s.events.status mask, BitVec.and_assoc, BitVec.and_assoc, ← BitVec.and_assoc s.events.status]
    rw [EventUnit.noticeSet, masked, none, show mask &&& 0 = 0 from BitVec.and_zero]

/-- Answers and refusals join their queues. -/
theorem quiet_queues (s : State) {returns : List EntryIndex} {refusals : List AdmissionRefusal}
    (answers : s.sPort.returns <+: returns) (refused : s.sPort.refusals <+: refusals) :
    Quiet s { s with sPort := { s.sPort with returns := returns, refusals := refusals } } where
  current := rfl
  number := rfl
  liveness := rfl
  sending := rfl
  slot _ := rfl
  closed _ empty := empty
  replies := rfl
  returns := answers
  refusals := refused
  law law := ⟨law.timed, law.senderIdle, law.slotOwned, law.served⟩

theorem quiet_passive : PassiveRules Quiet where
  refl _ := Quiet.of_same rfl
  trans := Quiet.trans
  setStatus := quiet_setStatus
  clearStatus s k := quiet_clear s _
  logRecord := quiet_logRecord
  bumpBy _ _ _ := Quiet.of_same rfl
  setEntry _ _ _ := Quiet.of_same rfl
  joinReturns s i := quiet_queues s (List.prefix_append _ _) List.prefix_rfl
  setNode _ _ := Quiet.of_same rfl
  setHolds _ _ := Quiet.of_same rfl
  setRules _ _ _ _ _ _ := Quiet.of_same rfl
  setFallbackRecord _ _ := Quiet.of_same rfl
  leaveGoverned _ := Quiet.of_same rfl
  queueRefusal s r := by
    unfold State.queueRefusal
    split
    · exact quiet_queues s List.prefix_rfl (List.prefix_append _ _)
    · exact Quiet.of_same rfl

/-- A fallback entry gives the sender and its slot back before the notice condition is evaluated (R160, log 11). -/
theorem quiet_enterFallback (s : State) (cause : FallbackCause) : Quiet s (s.enterFallback cause) := by
  have steps := quiet_passive.fallbackSteps s cause
  exact quiet_evalNotice (fun law => law.almost.of_eq steps.current steps.liveness rfl rfl) steps.current steps.number
    steps.liveness steps.sending (fun _ => rfl) id steps.replies steps.returns steps.refusals

/-! ### Executions -/

theorem Quiet.execution (execution : Execution s t) : Quiet s t := by
  cases execution with
  | releases i x => exact quiet_passive.releaseHold s i x
  | denies i x => exact quiet_passive.denyHold s i x
  | clearsExceed ms =>
    obtain ⟨after, cleared, -⟩ := clearExceed_foldl ms s
    exact cleared ▸ Quiet.of_same rfl
  | clearsEvents e => exact quiet_clear s _
  | writesEvents e l =>
    exact quiet_evalNotice (fun law => law.almost.of_eq rfl rfl rfl rfl) rfl rfl rfl rfl (fun _ => rfl) id rfl
      List.prefix_rfl List.prefix_rfl
  | acknowledges =>
    refine quiet_evalNotice (fun law => ⟨law.timed, fun _ => rfl, fun n placed => law.slotOwned n ?_⟩) rfl rfl rfl rfl
      (fun notice => if_pos notice) (fun empty => by simp [empty]) rfl List.prefix_rfl List.prefix_rfl
    exact (Option.ite_none_right_eq_some.1 placed).2
  | entersFallback => exact quiet_enterFallback s .command
  | resumes => exact quiet_passive.resumeGoverned s
  | nothing | loadsShadow | loadsFallback | commits | aborts | editsLog | readsCounters | setsInterval | setsPeriod
  | editsEpoch | awaitsReset => exact Quiet.of_same rfl

/-! ### What else an event can do -/

/-- A NOTICE under transmission is abandoned: the session has ended or its number has changed, or the slot is left empty
(R123). -/
def Abandons (s t : State) : Prop :=
  s.sPort.sending = some .notice ∧ t.sPort.sending = none
  ∧ (s.session.current.isSome = true ∧ (t.session.current = none ∨ t.session.number ≠ s.session.number)
    ∨ t.session.current = none ∧ t.sPort.slot = none)

/-- The law of the session is kept, and the S-port goes on or abandons a NOTICE. -/
structure Talks (s t : State) : Prop where
  law : SessionLaw s → SessionLaw t
  port : GoesOn s t ∨ Abandons s t

theorem Quiet.talks (quiet : Quiet s t) : Talks s t := ⟨quiet.law, .inl quiet.goesOn⟩

theorem Talks.of_same (same : SameTalk s t) : Talks s t := (Quiet.of_same same).talks

theorem Abandons.quiet (abandons : Abandons s t) (quiet : Quiet t u) : Abandons s u := by
  obtain ⟨notice, silent, lost⟩ := abandons
  refine ⟨notice, quiet.sending.trans silent, ?_⟩
  rw [quiet.current, quiet.number]
  exact lost.imp_right fun ⟨ended, empty⟩ => ⟨ended, quiet.closed ended empty⟩

theorem Talks.quiet (talks : Talks s t) (quiet : Quiet t u) : Talks s u :=
  ⟨quiet.law ∘ talks.law, talks.port.imp (·.trans quiet.goesOn) (·.quiet quiet)⟩

theorem Quiet.talks_after (quiet : Quiet s t) (talks : Talks t u) : Talks s u := by
  refine ⟨talks.law ∘ quiet.law, talks.port.imp quiet.goesOn.trans fun ⟨notice, silent, lost⟩ => ?_⟩
  rw [quiet.current, quiet.number] at lost
  exact ⟨quiet.sending ▸ notice, silent, lost⟩

theorem Talks.pushReply (talks : Talks s t) (r : Reply) : Talks s (t.pushReply r) := by
  refine ⟨fun law => ?_, talks.port.imp_left fun goesOn => ?_⟩
  case refine_1 =>
    obtain ⟨timed, senderIdle, slotOwned, served⟩ := talks.law law
    exact ⟨timed, senderIdle, slotOwned, served⟩
  case refine_2 => exact { goesOn with replies := goesOn.replies.trans (List.prefix_append _ _) }

/-- The open session's record and the liveness timer are written. -/
theorem talks_keepSession {o p : OpenSession} (opened : s.session.current = some o) (owner : p.owner = o.owner)
    {l : LivenessState} (armed : l ≠ .disarmed) :
    Talks s (State.setLiveness l { s with session := { s.session with current := some p } }) := by
  refine ⟨fun law => ⟨⟨nofun, fun disarmed => absurd disarmed armed⟩, nofun, fun n placed => ?_, fun _ idle => ?_⟩, .inl ?_⟩
  case refine_1 =>
    obtain ⟨q, current, destination⟩ := law.slotOwned n placed
    cases opened.symm.trans current
    exact ⟨p, rfl, destination.trans owner.symm⟩
  case refine_2 => exact law.served (by rw [opened]; rfl) idle
  case refine_3 =>
    exact ⟨rfl, fun _ _ => ⟨rfl, rfl⟩, fun _ => rfl, List.prefix_rfl, List.prefix_rfl, List.prefix_rfl⟩

theorem talks_setLiveness (opened : SessionLaw s → s.session.current ≠ none) {l : LivenessState}
    (armed : l ≠ .disarmed) : Talks s (s.setLiveness l) := by
  refine ⟨fun law => ⟨iff_of_false (opened law) armed, law.senderIdle, law.slotOwned, law.served⟩, .inl ?_⟩
  exact ⟨rfl, fun _ still => ⟨still, rfl⟩, fun _ => rfl, List.prefix_rfl, List.prefix_rfl, List.prefix_rfl⟩

theorem talks_endSession (s : State) : Talks s s.endSession := by
  refine ⟨fun _ => ⟨iff_of_true rfl rfl, fun _ => rfl, nofun, nofun⟩, ?_⟩
  by_cases notice : s.sPort.sending = some .notice
  · exact .inr ⟨notice, if_pos notice, .inr ⟨rfl, rfl⟩⟩
  · exact .inl ⟨if_neg notice, fun sends => absurd sends notice, fun sends => absurd sends notice, List.prefix_rfl,
      List.prefix_rfl, List.prefix_rfl⟩

theorem nextNumber_ne (n : Half) : nextNumber n ≠ n := by
  unfold nextNumber
  split
  case isTrue wraps => simp [wraps]
  case isFalse => simp

/-- The session that OPEN starts, before the notice condition is evaluated. -/
def State.beginSession (owner : Byte) (s : State) : State :=
  State.loadLiveness
    { s with session := { s.session with
        current := some ⟨owner, 1, none⟩
        number := nextNumber s.session.number } }

theorem sessionLaw_startSession (owner : Byte) (empty : s.sPort.slot = none) : SessionLaw (s.startSession owner) := by
  have begun : SessionAlmost (s.beginSession owner) :=
    ⟨⟨nofun, nofun⟩, nofun, fun n placed => absurd (empty.symm.trans placed) nofun⟩
  exact begun.evalNotice

theorem goesOn_startSession (owner : Byte)
    (fresh : s.sPort.sending = some .notice → s.session.current = none) : GoesOn s (s.startSession owner) := by
  constructor
  case session => exact fun notice opened => by simp [fresh notice] at opened
  case slot =>
    intro notice
    rcases (s.beginSession owner).evalNotice_cases with ⟨same, -⟩ | ⟨o, -, made⟩
    · exact congrArg (·.sPort.slot) same
    · exact (congrArg (·.sPort.slot) made).trans (if_pos notice)
  all_goals simp [State.startSession]

theorem talks_opens (closed : s.session.current = none) (owner : Byte) : Talks s (s.startSession owner) := by
  refine ⟨fun law => sessionLaw_startSession owner ?_, .inl (goesOn_startSession owner fun _ => closed)⟩
  refine Option.eq_none_iff_forall_ne_some.2 fun n placed => ?_
  obtain ⟨o, current, -⟩ := law.slotOwned n placed
  exact absurd (closed.symm.trans current) nofun

theorem talks_takesOver (opened : s.session.current.isSome = true) (owner : Byte) :
    Talks s (s.withdrawNotice.startSession owner) := by
  refine ⟨fun law => sessionLaw_startSession owner rfl, ?_⟩
  by_cases notice : s.sPort.sending = some .notice
  · refine .inr ⟨notice, ?_, .inl ⟨opened, .inr ?_⟩⟩
    · have silent : s.withdrawNotice.sPort.sending = none := if_pos notice
      simpa [State.startSession] using silent
    · simpa [State.startSession] using nextNumber_ne s.session.number
  · have withdrawn : GoesOn s s.withdrawNotice :=
      ⟨if_neg notice, fun sends => absurd sends notice, fun sends => absurd sends notice, List.prefix_rfl,
        List.prefix_rfl, List.prefix_rfl⟩
    exact .inl (withdrawn.trans (goesOn_startSession owner fun sends => absurd (withdrawn.sending ▸ sends) notice))

/-- A new command that leaves the session open is answered (R137). -/
theorem talks_answerNew (code : Byte) (h : CommandHeader) {o : OpenSession} (r : Answered)
    (opened : r.state.session.current = some o) : Talks r.state (answerNew code h o r) := by
  have kept := talks_keepSession opened
    (p := { o with expected := nextNumber o.expected, last := some ⟨h.sequence, replyTo code h r.result r.payload⟩ })
    rfl (l := .running r.state.livenessDeadline) nofun
  exact kept.pushReply _

theorem Talks.effect (effect : FrameEffect s t) : Talks s t := by
  cases effect with
  | refused q c => exact (quiet_passive.refuseAdmission s q c).talks
  | allocated q stamp i => exact (quiet_passive.allocate s i q stamp).talks
  | answered i x d inFlight a => exact (quiet_passive.becomeReturning s i x a).talks
  | stray r => exact (quiet_passive.takeStray s r).talks
  | discarded | overrun => exact Talks.of_same rfl
  | turnedAway r => exact (Talks.of_same rfl).pushReply r
  | duplicate r room o opened =>
    have reloaded : Talks s s.loadLiveness := talks_setLiveness (fun _ => by simp [opened]) nofun
    exact reloaded.pushReply r
  | opens h room closed => exact (talks_opens closed h.source).pushReply _
  | takesOver h room o opened => exact (talks_takesOver (by rw [opened]; rfl) h.source).pushReply _
  | closes h => exact (talks_endSession s).pushReply _
  | executes code h o r room opened execution =>
    have executed := Quiet.execution execution
    exact executed.talks_after (talks_answerNew code h r (executed.current.trans opened))

theorem Talks.event (event : Event s t) : Talks s t := by
  cases event with
  | relinked p l => cases p <;> exact Talks.of_same rfl
  | dropped p l c => cases p <;> exact Talks.of_same rfl
  | linkChanged p l =>
    have linked : Quiet s (s.setLink p l) := by cases p <;> exact Quiet.of_same rfl
    exact (linked.trans (quiet_setStatus _ _)).talks
  | nodeLeavesUp => exact (quiet_passive.nodeLeavesUp s).talks
  | launched i => exact ((quiet_passive.setNode s _).trans (quiet_passive.launch _ i)).talks
  | responseExpired i x => exact ((quiet_passive.becomeReturning s i x _).trans (quiet_setStatus _ _)).talks
  | holdExpired i x hold =>
    exact ((quiet_passive.noteExpiry s i x _).trans (quiet_passive.applyDefault _ i x _)).talks
  | boundary => exact (quiet_passive.takeBoundary s).talks
  | restarted =>
    have captured : Quiet s s.captureSync := Quiet.of_same rfl
    exact (captured.trans (quiet_passive.takeBoundary _)).talks
  | warned d running =>
    have opened (law : SessionLaw s) : s.session.current ≠ none :=
      fun closed => absurd (running.symm.trans (law.timed.1 closed)) nofun
    have rewarned : Talks s (s.setLiveness (.warned s.livenessDeadline)) := talks_setLiveness opened nofun
    exact rewarned.quiet (quiet_setStatus _ _)
  | lost =>
    cases mode : s.control.mode with
    | fallback => rw [State.loseSession_fallback mode]; exact talks_endSession s
    | governed =>
      rw [State.loseSession_governed mode]
      exact (talks_endSession s).quiet (quiet_enterFallback _ .liveness)
  | resent o d opened awaiting =>
    refine ⟨fun law => ⟨law.timed, fun closed => absurd (opened.symm.trans closed) nofun, fun n placed => ?_,
      fun _ => nofun⟩, .inl ?_⟩
    · exact placeNotice_owned opened law.slotOwned placed
    · exact ⟨rfl, fun _ still => ⟨still, rfl⟩, fun notice => if_pos notice, List.prefix_rfl, List.prefix_rfl,
        List.prefix_rfl⟩
  | tickedOver =>
    have passed : Quiet s { s with now := s.now + 1 } := Quiet.of_same rfl
    exact (passed.trans (quiet_passive.takeBoundary _)).talks
  | accepted p t effect =>
    have accepted : Quiet s (s.accept p) := by cases p <;> exact Quiet.of_same rfl
    exact accepted.talks_after (Talks.effect effect)
  | nothing | synced | ticked => exact Talks.of_same rfl

/-! ### The law of the session (R117, R127) -/

theorem SessionLaw.stationEvent {front : Option Instr} (event : StationEvent front s t) (law : SessionLaw s) :
    SessionLaw t := by
  obtain ⟨timed, senderIdle, slotOwned, served⟩ := law
  cases event with
  | noticeSent => exact ⟨timed, senderIdle, nofun, served⟩
  | leavesUp =>
    have dropped : SessionLaw s.dropStation := ⟨timed, senderIdle, nofun, served⟩
    exact (quiet_setStatus _ _).law dropped
  | nothing | nothingToSend | nextPart | replySent | answerSent | refusalSent =>
    exact ⟨timed, senderIdle, slotOwned, served⟩

theorem sessionLaw_kept : Kept SessionLaw where
  queue _ _ law := ⟨law.timed, law.senderIdle, law.slotOwned, law.served⟩
  powerOn _ _ _ _ := ⟨iff_of_true rfl rfl, fun _ => rfl, nofun, nofun⟩
  heldLow law := ⟨law.timed, law.senderIdle, law.slotOwned, law.served⟩
  settle law := ⟨law.timed, law.senderIdle, law.slotOwned, law.served⟩
  reset _ := ⟨iff_of_true rfl rfl, fun _ => rfl, nofun, nofun⟩
  event law event := (Talks.event event).law law
  station law event := law.stationEvent event

end

/-- Settles O57, over what a step can do: the timer is armed and the session opened in one event, and each change of a
status, a route or the session ends with the evaluation of the notice condition. -/
theorem sessionLawIsKept : Obligations.SessionLawIsKept := fun _ _ law runs => sessionLaw_kept.step law runs

/-! ### The transmitters (R173, R174, R177) -/

theorem StationPort.choice_eq_none {p : StationPort} (nothing : p.choice = none) :
    p.replies = [] ∧ p.slot = none ∧ p.returns = [] ∧ p.refusals = [] := by
  unfold StationPort.choice at nothing
  (repeat' split at nothing) <;> simp_all

theorem StationPort.firstByRank_of_choice {p : StationPort} {x : Sending} (chosen : p.choice = some x) :
    p.firstByRank x := by
  unfold StationPort.choice at chosen
  unfold StationPort.firstByRank
  (repeat' split at chosen) <;> simp_all [Option.isSome_iff_ne_none]

theorem StationPort.arbitrated_idle {p : StationPort} (idle : p.sending = none) :
    p.arbitrated = if p.link.isUp then p.choice else none := by simp only [StationPort.arbitrated, idle]

theorem StationPort.arbitrated_busy {p : StationPort} {x : Sending} (busy : p.sending = some x) :
    p.arbitrated = some x := by simp only [StationPort.arbitrated, busy]

/-- An idle transmitter of an UP port has nothing to send (R173, R177). -/
def NothingWaits (t : State) : Prop :=
  (t.sPort.link.isUp = true → t.sPort.sending = none →
    t.sPort.replies = [] ∧ t.sPort.slot = none ∧ t.sPort.returns = [] ∧ t.sPort.refusals = [])
  ∧ (t.nPort.link.isUp = true → t.nPort.busy = false → t.nPort.queue = [])

/-- What the S-port sends after a step: the next part of a reply or what its arbiter takes where its transmission has ended,
and otherwise the same frame or what an idle port takes (R173, R174). -/
def SendsOn (s t : State) : Prop :=
  (∀ x, t.sPort.sending = some x → SendingEnds s t →
    (∃ part, s.sPort.sending = some (.reply part) ∧ x = .reply (part + 1) ∧ t.sPort.replies = s.sPort.replies)
      ∨ SendingByRank t.sPort x)
  ∧ (∀ x, t.sPort.sending = some x → ¬ SendingEnds s t →
    SendingGoesOn s.sPort t.sPort x
      ∨ ((s.sPort.sending = none ∨ s.sPort.sending = some .notice ∧ x ≠ .notice) ∧ SendingByRank t.sPort x))

section
variable {s t u : State}

theorem nothingWaits_settle (u : State) : NothingWaits u.settle := by
  refine ⟨fun up silent => ?_, fun up idle => ?_⟩
  case refine_1 =>
    have none : u.sPort.arbitrated = none := silent
    cases sending : u.sPort.sending with
    | some x => exact absurd ((StationPort.arbitrated_busy sending).symm.trans none) nofun
    | none =>
      have linked : u.sPort.link.isUp = true := up
      rw [StationPort.arbitrated_idle sending, if_pos linked] at none
      exact StationPort.choice_eq_none none
  case refine_2 =>
    have linked : u.nPort.link.isUp = true := up
    have unstarted : u.nPort.started = false := idle
    simp only [NodePort.started, linked, Bool.true_and, Bool.or_eq_false_iff, Bool.not_eq_false'] at unstarted
    exact List.isEmpty_iff.1 unstarted.2

/-- An idle S-port begins with what heads the first queue by rank (R173). -/
theorem sendingByRank_settle (idle : u.sPort.sending = none) {x : Sending} (sends : u.settle.sPort.sending = some x) :
    SendingByRank u.settle.sPort x := by
  have taken : u.sPort.arbitrated = some x := sends
  rw [StationPort.arbitrated_idle idle] at taken
  obtain ⟨up, chosen⟩ := Option.ite_none_right_eq_some.1 taken
  exact ⟨up, StationPort.firstByRank_of_choice chosen⟩

/-- A port that has gone DOWN sends nothing. -/
theorem settle_silent (idle : u.sPort.sending = none) (down : u.sPort.link.isUp = false) :
    u.settle.sPort.sending = none := by
  have silent := StationPort.arbitrated_idle idle
  rw [down] at silent
  exact silent

theorem sendsOn_of_silent (silent : t.sPort.sending = none) : SendsOn s t :=
  ⟨fun _ sends => absurd (silent.symm.trans sends) nofun, fun _ sends => absurd (silent.symm.trans sends) nofun⟩

theorem head?_of_prefix {α : Type} {l m : List α} (longer : l <+: m) {a : α} (head : l.head? = some a) :
    m.head? = some a := by
  obtain ⟨rest, rfl⟩ := longer
  rw [List.head?_append, head]; rfl

theorem GoesOn.sendingGoesOn (goesOn : GoesOn s u) {x : Sending} (sending : s.sPort.sending = some x) :
    SendingGoesOn s.sPort u.settle.sPort x := by
  refine ⟨sending, ?_⟩
  cases x with
  | reply part => exact fun r => head?_of_prefix goesOn.replies
  | notice => exact goesOn.slot sending
  | answer => exact fun i => head?_of_prefix goesOn.returns
  | refusal => exact fun r => head?_of_prefix goesOn.refusals

/-- A transmission that goes on has not ended. -/
theorem GoesOn.not_ends (goesOn : GoesOn s u) (other : s.pending.head? ≠ some .sPortTransmitComplete) :
    ¬ SendingEnds s u.settle := by
  rintro (⟨rest, completes⟩ | ⟨notice, opened, changed⟩)
  · exact other (by rw [completes]; rfl)
  · obtain ⟨still, number⟩ := goesOn.session notice opened
    rcases changed with closed | renumbered
    · have ended : u.session.current = none := closed
      simp [ended] at still
    · exact renumbered number

theorem GoesOn.sendsOn (goesOn : GoesOn s u) (other : s.pending.head? ≠ some .sPortTransmitComplete) :
    SendsOn s u.settle := by
  refine ⟨fun x _ ends => absurd ends (goesOn.not_ends other), fun x sends _ => ?_⟩
  cases sending : s.sPort.sending with
  | none => exact .inr ⟨.inl rfl, sendingByRank_settle (goesOn.sending.trans sending) sends⟩
  | some y =>
    have same : some y = some x := (StationPort.arbitrated_busy (goesOn.sending.trans sending)).symm.trans sends
    exact .inl (goesOn.sendingGoesOn (sending.trans same))

theorem Abandons.sendsOn (abandons : Abandons s u) : SendsOn s u.settle := by
  obtain ⟨notice, silent, lost⟩ := abandons
  refine ⟨fun x sends _ => .inr (sendingByRank_settle silent sends), fun x sends goesOn => ?_⟩
  have ranked := sendingByRank_settle silent sends
  rcases lost with ended | ⟨-, empty⟩
  · exact absurd (.inr ⟨notice, ended⟩) goesOn
  · have slotless : u.settle.sPort.slot = none := empty
    refine .inr ⟨.inr ⟨notice, ?_⟩, ranked⟩
    rintro rfl
    have first : u.settle.sPort.firstByRank .notice := ranked.2
    simp only [StationPort.firstByRank, slotless] at first
    simp at first

/-- A completion ends the transmission; the port goes on with a reply's next part, or its arbiter takes a frame (R174). -/
theorem sendsOn_stationEvent (event : StationEvent s.pending.head? t u) (same : t.sPort = s.sPort) :
    SendsOn s u.settle := by
  have completed (completes : s.pending.head? = some .sPortTransmitComplete) : SendingEnds s u.settle :=
    .inl (List.head?_eq_some_iff.1 completes)
  have arbitrates (completes : s.pending.head? = some .sPortTransmitComplete) (idle : u.sPort.sending = none) :
      SendsOn s u.settle :=
    ⟨fun x sends _ => .inr (sendingByRank_settle idle sends), fun x _ goesOn => absurd (completed completes) goesOn⟩
  cases event with
  | nothing completes idle => exact arbitrates completes idle
  | nextPart completes part sending =>
    refine ⟨fun x sends _ => .inl ⟨part, same ▸ sending, ?_, congrArg (·.replies) same⟩,
      fun x _ goesOn => absurd (completed completes) goesOn⟩
    exact (Option.some.inj sends).symm
  | nothingToSend completes => exact arbitrates completes rfl
  | replySent completes => exact arbitrates completes rfl
  | noticeSent completes => exact arbitrates completes rfl
  | answerSent completes => exact arbitrates completes rfl
  | refusalSent completes => exact arbitrates completes rfl
  | leavesUp =>
    refine sendsOn_of_silent (settle_silent ?_ ?_)
    · rw [State.setStatus_sPort_sending]; rfl
    · rw [State.setStatus_sPort_link]; rfl

end

/-- Settles O60: an event that is not a completion leaves the S-port's transmitter and the heads of its queues alone, or
abandons a NOTICE; then, and after a completion, the arbiter takes the first queue by rank. -/
theorem transmittersNeverWait : Obligations.TransmittersNeverWait := by
  intro s t runs released
  have both : NothingWaits t ∧ SendsOn s t := by
    obtain ⟨choices, outcome⟩ := outcome_step runs
    cases outcome with
    | powerOn => exact ⟨⟨nofun, nofun⟩, sendsOn_of_silent rfl⟩
    | heldLow => cases released
    | held inReset => exact absurd (inReset.symm.trans released) nofun
    | event u _ other event =>
      refine ⟨nothingWaits_settle u, ?_⟩
      rcases (Talks.event event).port with goesOn | abandons
      · have sameTalk : GoesOn s { s with choices := choices, pending := s.pending.tail } := GoesOn.of_same rfl
        exact (sameTalk.trans goesOn).sendsOn other
      · exact Abandons.sendsOn abandons
    | station u _ event => exact ⟨nothingWaits_settle u, sendsOn_stationEvent event rfl⟩
    | resets u =>
      have silent : u.managementReset.settle.sPort.sending = none := by
        simp [State.managementReset, StationPort.arbitrated, StationPort.choice]
      exact ⟨nothingWaits_settle _, sendsOn_of_silent silent⟩
  obtain ⟨⟨station, node⟩, ends, goesOn⟩ := both
  exact ⟨station, node, ends, goesOn⟩

end Sys2Proof.Machine
end

section
/-! PROOFS. The law of the ranges: fills, queues, settings and the fixed kinds. -/
namespace Sys2Proof.Machine

/-! ### What the law speaks of -/

/-- The fills, queues and settings that have a range. -/
structure RangeState where
  log : CaptureLog
  replies : List Reply
  refusals : List AdmissionRefusal
  interval : Nat
  period : Nat
  fallbackRecord : FallbackRecord
  resetCause : ResetCause
  enable : EventSet
  line : EventSet

/-- What a state holds of them. -/
def State.rangeState (s : State) : RangeState :=
  ⟨s.log, s.sPort.replies, s.sPort.refusals, s.notice.interval, s.control.period, s.control.fallbackRecord, s.resetCause,
    s.events.enable, s.events.line⟩

/-- Two states hold the same of them. -/
def SameRanges (s t : State) : Prop := t.rangeState = s.rangeState

section
variable {s t : State}

theorem RangeLaw.of_same (law : RangeLaw s) (same : SameRanges s t) : RangeLaw t := by
  simp only [SameRanges, State.rangeState, RangeState.mk.injEq] at same
  obtain ⟨log, replies, refusals, interval, period, record, cause, enable, line⟩ := same
  constructor
  case log => exact log ▸ law.log
  case threshold => exact log ▸ law.threshold
  case replies => exact replies ▸ law.replies
  case refusals => exact refusals ▸ law.refusals
  case interval => exact interval ▸ law.interval
  case period => exact period ▸ law.period
  case fallbackCount => exact record ▸ law.fallbackCount
  case discarded => exact cause ▸ law.discarded
  case fixedEnabled => exact enable ▸ law.fixedEnabled
  case fixedOnLine => exact line ▸ law.fixedOnLine

/-- The law with a new Capture Log. -/
theorem RangeLaw.withLog (law : RangeLaw s) (l : CaptureLog) (fill : l.records.length ≤ 256)
    (threshold : 1 ≤ l.threshold ∧ l.threshold ≤ 256) : RangeLaw { s with log := l } :=
  ⟨fill, threshold, law.replies, law.refusals, law.interval, law.period, law.fallbackCount, law.discarded,
    law.fixedEnabled, law.fixedOnLine⟩

theorem RangeLaw.pushReply (law : RangeLaw s) (room : s.sPort.replies.length < 4) (r : Reply) :
    RangeLaw (s.pushReply r) :=
  { law with replies := by rw [State.pushReply_sPort_replies, List.length_append]; exact room }

/-! ### The shared operations -/

theorem sameRanges_evalNotice (s : State) : SameRanges s s.evalNotice := by simp [SameRanges, State.rangeState]

theorem sameRanges_setStatus (s : State) (k : EventKind) : SameRanges s (s.setStatus k) := by
  simp [SameRanges, State.rangeState]

theorem sameRanges_setLink (s : State) (p : PortName) (l : Link) : SameRanges s (s.setLink p l) := by
  simp [SameRanges, State.rangeState]

theorem sameRanges_accept (s : State) (p : PortName) : SameRanges s (s.accept p) := by
  simp [SameRanges, State.rangeState]

theorem logAfter_length {e : EpochTimer} {l : CaptureLog} (room : l.records.length ≤ 256) (b : RecordBody) :
    (logAfter e l b).records.length ≤ 256 := by
  unfold logAfter
  split
  case isTrue below => rw [List.length_append]; exact below
  case isFalse full =>
    split
    · simp only [List.length_append, List.length_tail, List.length_singleton]; omega
    · exact room

theorem logAfter_threshold (e : EpochTimer) (l : CaptureLog) (b : RecordBody) :
    (logAfter e l b).threshold = l.threshold := by
  unfold logAfter
  split
  · rfl
  · split <;> rfl

theorem RangeLaw.logRecord (law : RangeLaw s) (b : RecordBody) : RangeLaw (s.logRecord b) := by
  have written : SameRanges { s with log := logAfter s.epoch s.log b } (s.logRecord b) := by
    simp [SameRanges, State.rangeState]
  exact (law.withLog _ (logAfter_length law.log b) (by rw [logAfter_threshold]; exact law.threshold)).of_same written

theorem RangeLaw.queueRefusal (law : RangeLaw s) (r : AdmissionRefusal) : RangeLaw (s.queueRefusal r) := by
  unfold State.queueRefusal
  split
  case isTrue room => exact { law with refusals := by rw [List.length_append]; exact room }
  case isFalse => exact law.of_same rfl

theorem nextFallbackRecord_count (cause : FallbackCause) (bound : s.control.fallbackRecord.count ≤ 65535) :
    (s.nextFallbackRecord cause).count ≤ 65535 := by
  unfold State.nextFallbackRecord
  dsimp only
  split <;> omega

theorem rangeLaw_passive : PassiveRules fun s t => RangeLaw s → RangeLaw t where
  refl _ := id
  trans first second := second ∘ first
  setStatus s k law := law.of_same (sameRanges_setStatus s k)
  clearStatus _ _ law := law.of_same rfl
  logRecord _ b law := law.logRecord b
  bumpBy _ _ _ law := law.of_same rfl
  setEntry _ _ _ law := law.of_same rfl
  joinReturns _ _ law := law.of_same rfl
  setNode _ _ law := law.of_same rfl
  setHolds _ _ law := law.of_same rfl
  setRules _ _ _ _ _ _ law := law.of_same rfl
  setFallbackRecord _ cause law := { law with fallbackCount := nextFallbackRecord_count cause law.fallbackCount }
  leaveGoverned _ law := law.of_same rfl
  queueRefusal _ r law := law.queueRefusal r

theorem RangeLaw.enterFallback (law : RangeLaw s) (cause : FallbackCause) : RangeLaw (s.enterFallback cause) := by
  have entered := rangeLaw_passive.fallbackSteps s cause law
  have restored : RangeLaw (State.setSender s.notice s.sPort.slot (s.fallbackSteps cause)) :=
    { entered with interval := law.interval }
  exact restored.of_same (sameRanges_evalNotice _)

/-! ### Executions, effects and events -/

theorem fixedEvents_or (e : EventSet) : (e ||| fixedEvents) &&& fixedEvents = fixedEvents := by
  ext k
  simp only [BitVec.getElem_and, BitVec.getElem_or]
  cases e[k] <;> cases fixedEvents[k] <;> rfl

theorem RangeLaw.execution (execution : Execution s t) (law : RangeLaw s) : RangeLaw t := by
  cases execution with
  | releases i x => exact rangeLaw_passive.releaseHold s i x law
  | denies i x => exact rangeLaw_passive.denyHold s i x law
  | editsLog l shorter threshold =>
    exact law.withLog l (Nat.le_trans shorter law.log) (threshold.elim (fun same => same ▸ law.threshold) id)
  | clearsExceed ms =>
    obtain ⟨after, cleared, -⟩ := clearExceed_foldl ms s
    exact cleared ▸ law.of_same rfl
  | clearsEvents e => exact { law with }
  | writesEvents e l =>
    have written : RangeLaw
        { s with events := { s.events with enable := e ||| fixedEvents, line := l ||| fixedEvents } } :=
      { law with fixedEnabled := fixedEvents_or e, fixedOnLine := fixedEvents_or l }
    exact written.of_same (sameRanges_evalNotice _)
  | acknowledges =>
    have acknowledged : SameRanges s s.acknowledge := by simp [SameRanges, State.rangeState, State.acknowledge]
    exact law.of_same acknowledged
  | setsInterval n least most => exact { law with interval := ⟨least, most⟩ }
  | setsPeriod n least most => exact { law with period := ⟨least, most⟩ }
  | entersFallback => exact law.enterFallback .command
  | resumes => exact rangeLaw_passive.resumeGoverned s law
  | nothing | loadsShadow | loadsFallback | commits | aborts | readsCounters | editsEpoch | awaitsReset =>
    exact law.of_same rfl

theorem RangeLaw.openFor (law : RangeLaw s) (room : s.sPort.replies.length < 4) (h : CommandHeader) :
    RangeLaw (s.openFor h) := by
  have started : SameRanges s (s.startSession h.source) := by simp [SameRanges, State.rangeState, State.startSession]
  exact (law.of_same started).pushReply (by simpa [State.startSession] using room) _

theorem RangeLaw.effect (effect : FrameEffect s t) (law : RangeLaw s) : RangeLaw t := by
  cases effect with
  | refused q c => exact rangeLaw_passive.refuseAdmission s q c law
  | allocated q stamp i => exact rangeLaw_passive.allocate s i q stamp law
  | answered i x d inFlight a => exact rangeLaw_passive.becomeReturning s i x a law
  | stray r => exact rangeLaw_passive.takeStray s r law
  | discarded => exact law
  | overrun => exact law.of_same rfl
  | turnedAway r room => exact law.pushReply room r
  | duplicate r room =>
    have reloaded : RangeLaw s.loadLiveness := law.of_same rfl
    exact reloaded.pushReply room r
  | opens h room => exact law.openFor room h
  | takesOver h room =>
    have withdrawn : RangeLaw s.withdrawNotice := law.of_same rfl
    exact withdrawn.openFor room h
  | closes h room =>
    have ended : RangeLaw s.endSession := law.of_same rfl
    exact ended.pushReply room _
  | executes code h o r room opened execution =>
    have executed := (law.execution execution).pushReply ((Quiet.execution execution).replies.symm ▸ room)
      (replyTo code h r.result r.payload)
    exact executed.of_same rfl

theorem RangeLaw.event (event : Event s t) (law : RangeLaw s) : RangeLaw t := by
  cases event with
  | relinked p l => exact law.of_same (sameRanges_setLink s p l)
  | dropped p l c => exact RangeLaw.of_same (s := s.bump c) (law.of_same rfl) (sameRanges_setLink _ p l)
  | linkChanged p l => exact (law.of_same (sameRanges_setLink s p l)).of_same (sameRanges_setStatus _ _)
  | nodeLeavesUp => exact rangeLaw_passive.nodeLeavesUp s law
  | launched i rest => exact rangeLaw_passive.launch _ i (law.of_same rfl)
  | responseExpired i x => exact (rangeLaw_passive.becomeReturning s i x _ law).of_same (sameRanges_setStatus _ _)
  | holdExpired i x hold =>
    exact rangeLaw_passive.applyDefault _ i x _ (rangeLaw_passive.noteExpiry s i x hold.default law)
  | boundary => exact rangeLaw_passive.takeBoundary s law
  | restarted => exact rangeLaw_passive.takeBoundary s.captureSync (law.of_same rfl)
  | warned =>
    have warned : RangeLaw (s.setLiveness (.warned s.livenessDeadline)) := law.of_same rfl
    exact warned.of_same (sameRanges_setStatus _ _)
  | lost =>
    have ended : RangeLaw s.endSession := law.of_same rfl
    cases mode : s.control.mode with
    | fallback => rw [State.loseSession_fallback mode]; exact ended
    | governed => rw [State.loseSession_governed mode]; exact ended.enterFallback _
  | tickedOver => exact rangeLaw_passive.takeBoundary { s with now := s.now + 1 } (law.of_same rfl)
  | accepted p t effect => exact (law.of_same (sameRanges_accept s p)).effect effect
  | nothing | synced | resent | ticked => exact law.of_same rfl

theorem RangeLaw.stationEvent {front : Option Instr} (event : StationEvent front s t) (law : RangeLaw s) :
    RangeLaw t := by
  cases event with
  | replySent completes part r rest sending head =>
    have fewer : rest.length ≤ 4 := by
      have room := law.replies
      rw [head, List.length_cons] at room
      omega
    exact { law with replies := fewer }
  | refusalSent =>
    have fewer : s.sPort.refusals.tail.length ≤ 4 := by
      rw [List.length_tail]
      exact Nat.le_trans (Nat.sub_le _ 1) law.refusals
    exact { law with refusals := fewer }
  | leavesUp =>
    have dropped : RangeLaw s.dropStation := { law with replies := Nat.zero_le _, refusals := Nat.zero_le _ }
    exact dropped.of_same (sameRanges_setStatus _ _)
  | nothing | nothingToSend | nextPart | noticeSent | answerSent => exact law.of_same rfl

theorem rangeLaw_reset : RangeLaw State.reset := by constructor <;> decide

theorem RangeLaw.managementReset (law : RangeLaw s) : RangeLaw s.managementReset := by
  have entries : s.entriesInUse ≤ 32 := by
    have counted := List.countP_le_length (p := fun i => !(s.entryState i).isFree) (l := entryIndices)
    simpa [State.entriesInUse, entryIndices] using counted
  exact { rangeLaw_reset with
    log := law.log
    threshold := law.threshold
    fallbackCount := law.fallbackCount
    discarded := entries }

theorem rangeLaw_kept : Kept RangeLaw where
  queue _ _ law := law.of_same rfl
  powerOn _ _ _ _ := rangeLaw_reset.of_same rfl
  heldLow law := law.of_same rfl
  settle law := law.of_same rfl
  reset := RangeLaw.managementReset
  event law event := law.event event
  station law event := law.stationEvent event

end

/-- Settles O58, over what a step can do: each queue is joined only where there is room, and each setting is written only
with a value that its check let pass. -/
theorem rangeLawIsKept : Obligations.RangeLawIsKept := fun _ _ law runs => rangeLaw_kept.step law runs

end Sys2Proof.Machine
end

section
/-! PROOFS. The entries of the transaction table: how they move in an event, and the law of the tags. -/
namespace Sys2Proof.Machine

/-! ### Forward moves (R2, R7) -/

/-- How an entry that is in use, or FREE, may move forward in an event that allocates nothing. -/
inductive EntryStep : EntryState → EntryState → Prop
  | forwarded (x : Txn) (hold : Hold) : EntryStep (.held x hold) (.queued x)
  | refused (x : Txn) (hold : Hold) (c : RefusalCause) : EntryStep (.held x hold) (.returning x (.refusal c))
  | launched (x : Txn) (d : Nat) : EntryStep (.queued x) (.inFlight x d)
  | lost (x : Txn) : EntryStep (.queued x) (.returning x (.refusal .linkDown))
  | answered (x : Txn) (d : Nat) (a : Answer) : EntryStep (.inFlight x d) (.returning x a)
  | freed (st : EntryState) : EntryStep st .free

/-- Each entry keeps its generation, and stays or moves forward by one step. -/
def Advances (s t : State) : Prop :=
  ∀ i, t.generation i = s.generation i
    ∧ (t.entryState i = s.entryState i ∨ EntryStep (s.entryState i) (t.entryState i))

/-- A new entry's state, for the request it was decided with. -/
def Decided (x : Txn) (st : EntryState) : Prop :=
  (∃ hold, st = .held x hold) ∨ st = .queued x ∨ ∃ c, st = .returning x (.refusal c)

/-- An entry is given a state, and the others stay. -/
def GivesEntry (i : EntryIndex) (e : Entry) (s t : State) : Prop :=
  ∀ j, t.table[j] = if j = i then e else s.table[j]

/-- A FREE entry is given to a request whose station and tag no other entry has (R3, R6). -/
def Allocates (s t : State) : Prop :=
  ∃ i x st, s.entryState i = .free ∧ s.tagInUse x.request.station x.request.tag = false ∧ Decided x st
    ∧ GivesEntry i ⟨s.generation i + 1, st⟩ s t

section
variable {s t u : State} {i : EntryIndex} {x : Txn}

theorem Entry.ext_of {e f : Entry} (generation : f.generation = e.generation) (state : f.state = e.state) : f = e := by
  cases e; cases f; cases generation; cases state; rfl

theorem EntryMoves.refl (e : Entry) : EntryMoves e e := by cases state : e.state <;> simp [EntryMoves, state]

theorem Advances.entryMoves (advances : Advances s t) (i : EntryIndex) : EntryMoves s.table[i] t.table[i] := by
  obtain ⟨generation, moved⟩ := advances i
  have kept : t.table[i].generation = s.table[i].generation := generation
  have moved : t.table[i].state = s.table[i].state ∨ EntryStep s.table[i].state t.table[i].state := moved
  generalize t.table[i] = f at kept moved ⊢
  generalize s.table[i] = e at kept moved ⊢
  rcases moved with same | step
  case inl =>
    obtain rfl := Entry.ext_of kept same
    exact EntryMoves.refl f
  case inr =>
    obtain ⟨g, before⟩ := e
    obtain ⟨g', after⟩ := f
    obtain rfl : g' = g := kept
    have step : EntryStep before after := step
    cases step with
    | freed => cases before <;> simp [EntryMoves]
    | forwarded | refused | launched | lost | answered => simp [EntryMoves]

theorem Allocates.entryMoves (allocates : Allocates s t) (i : EntryIndex) : EntryMoves s.table[i] t.table[i] := by
  obtain ⟨k, x, st, free, -, decided, gives⟩ := allocates
  rw [gives i]
  by_cases same : i = k
  case pos =>
    subst same
    have free : s.table[i].state = .free := free
    simp only [EntryMoves, free, if_true]
    exact .inr ⟨rfl, x, decided⟩
  case neg =>
    rw [if_neg same]
    exact EntryMoves.refl _

theorem EntryStep.txn? {before after : EntryState} (step : EntryStep before after) {x : Txn} (holds : after.txn? = some x) :
    before.txn? = some x := by
  cases step with
  | freed => cases holds
  | forwarded | refused | launched | lost | answered => exact holds

theorem Advances.tagLaw (advances : Advances s t) (law : TagLaw s) : TagLaw t := by
  have before (i : EntryIndex) (x : Txn) (holds : (t.entryState i).txn? = some x) : (s.entryState i).txn? = some x := by
    rcases (advances i).2 with same | step
    · rw [← same]; exact holds
    · exact step.txn? holds
  exact fun i j x y hx hy => law i j x y (before i x hx) (before j y hy)

theorem Decided.txn? {st : EntryState} (decided : Decided x st) : st.txn? = some x := by
  rcases decided with ⟨hold, rfl⟩ | rfl | ⟨c, rfl⟩ <;> rfl

theorem State.not_tagInUse {station tag : Byte} (unused : s.tagInUse station tag = false) {i : EntryIndex} {x : Txn}
    (holds : (s.entryState i).txn? = some x) : ¬ (x.request.station = station ∧ x.request.tag = tag) := by
  have all := List.any_eq_false.1 unused i (List.mem_finRange i)
  simpa [holds] using all

theorem Allocates.tagLaw (allocates : Allocates s t) (law : TagLaw s) : TagLaw t := by
  obtain ⟨k, z, st, -, unused, decided, gives⟩ := allocates
  have taken : (t.entryState k).txn? = some z := by
    rw [State.entryState, gives k, if_pos rfl]
    exact decided.txn?
  have others (i : EntryIndex) (other : i ≠ k) : t.entryState i = s.entryState i := by
    rw [State.entryState, gives i, if_neg other]; rfl
  have fresh (i : EntryIndex) (other : i ≠ k) (x : Txn) (holds : (t.entryState i).txn? = some x)
      (station : x.request.station = z.request.station) (tag : x.request.tag = z.request.tag) : False := by
    rw [others i other] at holds
    exact State.not_tagInUse unused holds ⟨station, tag⟩
  intro i j x y hx hy station tag
  by_cases first : i = k
  case pos =>
    subst first
    cases taken.symm.trans hx
    exact Decidable.byContradiction fun other => fresh j (Ne.symm other) y hy station.symm tag.symm
  case neg =>
    by_cases second : j = k
    case pos =>
      subst second
      cases taken.symm.trans hy
      exact (fresh i first x hx station tag).elim
    case neg =>
      rw [others i first] at hx
      rw [others j second] at hy
      exact law i j x y hx hy station tag

/-! ### One entry at a time -/

theorem Advances.of_table (same : t.table = s.table) : Advances s t := by
  intro i
  simp only [State.generation, State.entryState, same, true_or, and_self]

theorem Advances.before (same : s.table = u.table) (advances : Advances s t) : Advances u t := by
  intro i
  have moved := advances i
  simpa only [State.generation, State.entryState, same] using moved

theorem Advances.after (advances : Advances s t) (same : u.table = t.table) : Advances s u := by
  intro i
  have moved := advances i
  simpa only [State.generation, State.entryState, same] using moved

theorem GivesEntry.advances {st : EntryState} (gives : GivesEntry i ⟨s.generation i, st⟩ s t)
    (step : EntryStep (s.entryState i) st) : Advances s t := by
  intro j
  simp only [State.generation, State.entryState, gives j]
  by_cases same : j = i
  · subst same; rw [if_pos rfl]; exact ⟨rfl, .inr step⟩
  · rw [if_neg same]; exact ⟨rfl, .inl rfl⟩

theorem GivesEntry.before {e : Entry} (gives : GivesEntry i e s t) (same : s.table = u.table) : GivesEntry i e u t := by
  intro j
  rw [gives j, same]

theorem GivesEntry.after {e : Entry} (gives : GivesEntry i e s t) (same : u.table = t.table) : GivesEntry i e s u := by
  intro j
  rw [same, gives j]

/-- An answered entry becomes RETURNING, or FREE at once while the S-port is not UP (R9). -/
theorem becomeReturning_gives (s : State) (i : EntryIndex) (x : Txn) (a : Answer) :
    ∃ st, (st = .returning x a ∨ st = .free ∧ s.sPort.link.isUp = false)
      ∧ GivesEntry i ⟨s.generation i, st⟩ s (s.becomeReturning i x a) := by
  refine ⟨_, ?_, fun j => State.becomeReturning_table i j x a s⟩
  cases up : s.sPort.link.isUp <;> simp

/-- A forwarded entry becomes QUEUED, or is answered LINK_DOWN while the N-port is not UP (R8). -/
theorem forward_gives (s : State) (i : EntryIndex) (x : Txn) :
    ∃ st, (st = .queued x ∨ st = .returning x (.refusal .linkDown) ∨ st = .free ∧ s.sPort.link.isUp = false)
      ∧ GivesEntry i ⟨s.generation i, st⟩ s (s.forward i x) := by
  refine ⟨_, ?_, fun j => State.forward_table i j x s⟩
  cases node : s.nPort.link.isUp <;> cases station : s.sPort.link.isUp <;> simp

/-! ### Several entries, each at most once -/

/-- Entries move only out of the states of a kind. -/
structure MovesOut (P : EntryState → Prop) (s t : State) : Prop where
  advances : Advances s t
  once : ∀ i, t.entryState i = s.entryState i ∨ P (s.entryState i) ∧ ¬ P (t.entryState i)

theorem MovesOut.refl (P : EntryState → Prop) (s : State) : MovesOut P s s := ⟨.of_table rfl, fun _ => .inl rfl⟩

theorem MovesOut.trans {P : EntryState → Prop} (first : MovesOut P s t) (second : MovesOut P t u) : MovesOut P s u := by
  constructor
  case advances =>
    intro i
    obtain ⟨kept, moved⟩ := first.advances i
    obtain ⟨kept', moved'⟩ := second.advances i
    refine ⟨kept'.trans kept, ?_⟩
    rcases first.once i with same | ⟨-, out⟩
    · rwa [same] at moved'
    · rcases second.once i with same | ⟨again, -⟩
      · rwa [same]
      · exact absurd again out
  case once =>
    intro i
    rcases first.once i with same | ⟨left, out⟩
    · have later := second.once i; rwa [same] at later
    · rcases second.once i with same | ⟨again, -⟩
      · rw [same]; exact .inr ⟨left, out⟩
      · exact absurd again out

theorem MovesOut.foldl {P : EntryState → Prop} {α : Type} {f : State → α → State}
    (each : ∀ s x, MovesOut P s (f s x)) (l : List α) (s : State) : MovesOut P s (l.foldl f s) := by
  induction l generalizing s with
  | nil => exact .refl P s
  | cons x l ih => exact (each s x).trans (ih _)

theorem GivesEntry.movesOut {P : EntryState → Prop} {st : EntryState} (gives : GivesEntry i ⟨s.generation i, st⟩ s t)
    (step : EntryStep (s.entryState i) st) (within : P (s.entryState i)) (out : ¬ P st) : MovesOut P s t := by
  refine ⟨gives.advances step, fun j => ?_⟩
  by_cases same : j = i
  · subst same
    have given : t.entryState j = st := by simp only [State.entryState, gives j, if_true]
    exact .inr ⟨within, given ▸ out⟩
  · have kept : t.entryState j = s.entryState j := by simp only [State.entryState, gives j, if_neg same]
    exact .inl kept

/-- The entry is HELD. -/
def EntryState.IsHeld (st : EntryState) : Prop := ∃ x hold, st = .held x hold

/-- The entry is on the node side. -/
def EntryState.IsOnNodeSide (st : EntryState) : Prop := ∃ x, st = .queued x ∨ ∃ d, st = .inFlight x d

theorem movesOut_forward {hold : Hold} (held : s.entryState i = .held x hold) :
    MovesOut EntryState.IsHeld s (s.forward i x) := by
  obtain ⟨st, state, gives⟩ := forward_gives s i x
  refine gives.movesOut ?_ ⟨x, hold, held⟩ ?_
  · rw [held]
    rcases state with rfl | rfl | ⟨rfl, -⟩
    · exact .forwarded x hold
    · exact .refused x hold _
    · exact .freed _
  · rcases state with rfl | rfl | ⟨rfl, -⟩ <;> simp [EntryState.IsHeld]

theorem movesOut_refuse {hold : Hold} (held : s.entryState i = .held x hold) (c : RefusalCause) :
    MovesOut EntryState.IsHeld s (s.becomeReturning i x (.refusal c)) := by
  obtain ⟨st, state, gives⟩ := becomeReturning_gives s i x (.refusal c)
  refine gives.movesOut ?_ ⟨x, hold, held⟩ ?_
  · rw [held]
    rcases state with rfl | ⟨rfl, -⟩
    · exact .refused x hold c
    · exact .freed _
  · rcases state with rfl | ⟨rfl, -⟩ <;> simp [EntryState.IsHeld]

theorem movesOut_answer {a : Answer} (side : EntryState.IsOnNodeSide (s.entryState i))
    (step : EntryStep (s.entryState i) (.returning x a)) :
    MovesOut EntryState.IsOnNodeSide s (s.becomeReturning i x a) := by
  obtain ⟨st, state, gives⟩ := becomeReturning_gives s i x a
  refine gives.movesOut ?_ side ?_
  · rcases state with rfl | ⟨rfl, -⟩
    · exact step
    · exact .freed _
  · rcases state with rfl | ⟨rfl, -⟩ <;> simp [EntryState.IsOnNodeSide]

theorem MovesOut.before {P : EntryState → Prop} (moves : MovesOut P s t) (same : s.table = u.table) : MovesOut P u t :=
  ⟨moves.advances.before same, fun i => by
    have once := moves.once i
    simpa only [State.entryState, same] using once⟩

theorem movesOut_applyDefault {hold : Hold} (held : s.entryState i = .held x hold) (d : PassRefuse) :
    MovesOut EntryState.IsHeld s (s.applyDefault i x d) := by
  cases d with
  | pass => exact movesOut_forward held
  | refuse => exact movesOut_refuse held _

theorem movesOut_resolveByFallback (s : State) (r : HoldRef) : MovesOut EntryState.IsHeld s (s.resolveByFallback r) := by
  cases entry : s.entryState r.index with
  | held x hold =>
    rw [State.resolveByFallback_held entry]
    exact (movesOut_applyDefault (by rw [State.removeHold_entryState, entry]) _).before (State.removeHold_table _ _ _)
  | free | queued | inFlight | returning => simpa only [State.resolveByFallback, entry] using MovesOut.refl _ s

theorem movesOut_answerLinkDown (s : State) (i : EntryIndex) :
    MovesOut EntryState.IsOnNodeSide s (s.answerLinkDown i) := by
  cases entry : s.entryState i with
  | queued x =>
    simp only [State.answerLinkDown, entry]
    exact movesOut_answer ⟨x, .inl entry⟩ (entry ▸ .lost x)
  | inFlight x d =>
    simp only [State.answerLinkDown, entry]
    exact movesOut_answer ⟨x, .inr ⟨d, entry⟩⟩ (entry ▸ .answered x d _)
  | free | held | returning => simpa only [State.answerLinkDown, entry] using MovesOut.refl _ s

/-! ### Each event moves the entries so -/

theorem takeBoundary_table (s : State) : s.takeBoundary.table = s.table := by
  cases state : s.commit.state with
  | idle => rw [State.takeBoundary_idle state]
  | pending => rw [State.takeBoundary_pending state]; simp [State.setCommit, State.enforceShadow]

theorem adoptEpochLength_table (s : State) : s.adoptEpochLength.table = s.table := by
  rcases State.adoptEpochLength_cases s with ⟨moves, -⟩ | ⟨stays, -⟩
  · rw [moves, takeBoundary_table]
  · rw [stays]

theorem noteFallback_table (cause : FallbackCause) (s : State) : (s.noteFallback cause).table = s.table := by
  simp [State.noteFallback, State.setFallbackRecord]

theorem advances_enterFallback (s : State) (cause : FallbackCause) : Advances s (s.enterFallback cause) := by
  have resolved := MovesOut.foldl movesOut_resolveByFallback s.holdQueue s.leaveGoverned
  refine (resolved.advances.after ?_).before rfl
  rw [State.enterFallback, State.evalNotice_table, State.setSender_table, State.fallbackSteps_eq, adoptEpochLength_table,
    noteFallback_table]

theorem advances_execution (execution : Execution s t) : Advances s t := by
  cases execution with
  | releases i x hold held =>
    have stillHeld : (s.removeHold i (holdRecord .released x none false)).entryState i = .held x hold := by
      rw [State.removeHold_entryState, held]
    exact (movesOut_forward stillHeld).advances.before (State.removeHold_table _ _ _)
  | denies i x hold held =>
    have stillHeld : (s.removeHold i (holdRecord .denied x (some .holdDenied) false)).entryState i = .held x hold := by
      rw [State.removeHold_entryState, held]
    exact (movesOut_refuse stillHeld _).advances.before (State.removeHold_table _ _ _)
  | clearsExceed ms =>
    obtain ⟨after, cleared, -⟩ := clearExceed_foldl ms s
    exact cleared ▸ .of_table rfl
  | writesEvents | acknowledges => exact .of_table (by simp [State.writeEvents, State.acknowledge])
  | entersFallback => exact advances_enterFallback s .command
  | resumes =>
    refine .of_table ?_
    rw [State.resumeGoverned_eq, adoptEpochLength_table, State.recordResume, State.logRecord_table]; rfl
  | nothing | loadsShadow | loadsFallback | commits | aborts | editsLog | readsCounters | clearsEvents | setsInterval
  | setsPeriod | editsEpoch | awaitsReset => exact .of_table rfl

/-- The entry is given a state it can have after its decision. -/
def GivesDecided (i : EntryIndex) (x : Txn) (s t : State) : Prop :=
  ∃ st, Decided x st ∧ GivesEntry i ⟨s.generation i, st⟩ s t

theorem GivesDecided.before (gives : GivesDecided i x s t) (same : s.table = u.table) : GivesDecided i x u t := by
  obtain ⟨st, decided, given⟩ := gives
  have generation : s.generation i = u.generation i := by simp only [State.generation, same]
  exact ⟨st, decided, generation ▸ given.before same⟩

theorem GivesDecided.after (gives : GivesDecided i x s t) (same : u.table = t.table) : GivesDecided i x s u := by
  obtain ⟨st, decided, given⟩ := gives
  exact ⟨st, decided, given.after same⟩

/-- At an UP S-port, no entry forwarded or refused is freed. -/
theorem forward_givesDecided (up : s.sPort.link.isUp = true) : GivesDecided i x s (s.forward i x) := by
  obtain ⟨st, state, gives⟩ := forward_gives s i x
  refine ⟨st, ?_, gives⟩
  rcases state with queued | lost | ⟨-, down⟩
  · exact .inr (.inl queued)
  · exact .inr (.inr ⟨_, lost⟩)
  · exact absurd (up.symm.trans down) nofun

theorem refuse_givesDecided (up : s.sPort.link.isUp = true) (c : RefusalCause) :
    GivesDecided i x s (s.becomeReturning i x (.refusal c)) := by
  obtain ⟨st, state, gives⟩ := becomeReturning_gives s i x (.refusal c)
  refine ⟨st, ?_, gives⟩
  rcases state with refused | ⟨-, down⟩
  · exact .inr (.inr ⟨c, refused⟩)
  · exact absurd (up.symm.trans down) nofun

theorem becomeHeld_givesDecided (s : State) (limit : Nat) (d : PassRefuse) :
    GivesDecided i x s (s.becomeHeld i x limit d) := by
  refine ⟨_, .inl ⟨⟨limit, d, s.now + millis limit⟩, rfl⟩, fun j => ?_⟩
  rw [State.becomeHeld, State.followHolds_table]
  exact State.setEntry_table i j _ s

theorem decideHold_givesDecided (up : s.sPort.link.isUp = true) (limit : Nat) (d : PassRefuse) :
    GivesDecided i x s (s.decideHold i x limit d) := by
  unfold State.decideHold
  split
  · exact (becomeHeld_givesDecided _ limit d).before (State.logDecision_table _ _ _)
  · exact ((refuse_givesDecided (by simpa using up) _).before (State.logDecision_table _ _ _)).after
      (State.setStatus_table _ _)

theorem decideMeter_givesDecided (up : s.sPort.link.isUp = true) (m : Fin Config.meters) :
    GivesDecided i x s (s.decideMeter i x m) := by
  unfold State.decideMeter
  dsimp only
  split
  · exact (forward_givesDecided (by simpa using up)).before (by simp)
  · split
    · exact (refuse_givesDecided (by simpa using up) _).before (by simp)
    · exact (forward_givesDecided (by simpa using up)).before (by simp)

theorem decideBy_givesDecided (up : s.sPort.link.isUp = true) (a : RuleAction) :
    GivesDecided i x s (s.decideBy i x a) := by
  cases a with
  | pass => exact (forward_givesDecided (by simpa using up)).before (State.logDecision_table _ _ _)
  | refuse => exact (refuse_givesDecided (by simpa using up) _).before (State.logDecision_table _ _ _)
  | hold limit d => exact decideHold_givesDecided up limit d
  | meter m => exact decideMeter_givesDecided up m

theorem allocates_allocate {q : Request} (stamp : Stamp) (up : s.sPort.link.isUp = true)
    (fresh : s.tagInUse q.station q.tag = false) (free : s.entryState i = .free) :
    Allocates s (s.allocate i q stamp) := by
  have upStill : (State.bump .requestsAdmitted (s.setEntry i ⟨s.generation i + 1, .free⟩)).sPort.link.isUp = true := up
  obtain ⟨st, decided, gives⟩ := decideBy_givesDecided (i := i) (x := txnOf q stamp (s.verdict q stamp.offset)) upStill
    (s.verdict q stamp.offset).action
  refine ⟨i, txnOf q stamp (s.verdict q stamp.offset), st, free, fresh, decided, fun j => ?_⟩
  rw [State.allocate, gives j]
  by_cases same : j = i <;> simp [same, State.generation]

theorem refuseAdmission_table (q : Request) (c : RefusalCause) (s : State) : (s.refuseAdmission q c).table = s.table := by
  have queued (r : AdmissionRefusal) (u : State) : (u.queueRefusal r).table = u.table := by
    unfold State.queueRefusal
    split <;> rfl
  have flagged (u : State) : (u.flagFullTable c).table = u.table := by
    unfold State.flagFullTable
    split
    · exact State.setStatus_table _ u
    · rfl
  unfold State.refuseAdmission
  dsimp only
  split
  · rw [State.logRecord_table, flagged, queued]; rfl
  · rw [flagged, queued]; rfl

theorem takeStray_table (r : Response) (s : State) : (s.takeStray r).table = s.table := by
  unfold State.takeStray
  dsimp only
  split <;> simp

/-- The entries advance, or one is allocated. -/
def EntriesMove (s t : State) : Prop := Advances s t ∨ Allocates s t

theorem entriesMove_effect (effect : FrameEffect s t) : EntriesMove s t := by
  cases effect with
  | allocated q stamp i up fresh free => exact .inr (allocates_allocate stamp up fresh free)
  | refused q c => exact .inl (.of_table (refuseAdmission_table q c s))
  | answered i x d inFlight a => exact .inl (movesOut_answer ⟨x, .inr ⟨d, inFlight⟩⟩ (inFlight ▸ .answered x d a)).advances
  | stray r => exact .inl (.of_table (takeStray_table r s))
  | executes code h o r room opened execution => exact .inl ((advances_execution execution).after rfl)
  | opens h | takesOver h => exact .inl (.of_table (State.evalNotice_table _))
  | discarded | overrun | turnedAway | duplicate | closes => exact .inl (.of_table rfl)

theorem EntriesMove.before (moves : EntriesMove s t) (same : s.table = u.table) : EntriesMove u t := by
  refine moves.imp (·.before same) fun ⟨k, y, st, free, fresh, decided, gives⟩ => ⟨k, y, st, ?_, ?_, decided, ?_⟩
  · simpa only [State.entryState, same] using free
  · simpa only [State.tagInUse, State.entryState, same] using fresh
  · simpa only [State.generation, same] using gives.before same

theorem EntriesMove.after (moves : EntriesMove s t) (same : u.table = t.table) : EntriesMove s u :=
  moves.imp (·.after same) fun ⟨k, y, st, free, fresh, decided, gives⟩ =>
    ⟨k, y, st, free, fresh, decided, gives.after same⟩

theorem advances_launch (s : State) (i : EntryIndex) : Advances s (s.launch i) := by
  cases entry : s.entryState i with
  | queued y =>
    have launched : s.launch i = s.setEntry i ⟨s.generation i, .inFlight y (s.now + millis y.responseTimeout)⟩ := by
      simp only [State.launch, entry, State.setEntryState_eq]
    rw [launched]
    exact GivesEntry.advances (i := i) (fun j => State.setEntry_table i j _ s) (entry ▸ .launched y _)
  | free | held | inFlight | returning => simpa only [State.launch, entry] using .of_table rfl

theorem entriesMove_event (event : Event s t) : EntriesMove s t := by
  cases event with
  | accepted p t effect => exact (entriesMove_effect effect).before (State.accept_table _ _)
  | linkChanged p l => exact .inl (.of_table (by simp [State.changeLink]))
  | relinked p l => exact .inl (.of_table (by simp))
  | dropped p l c => exact .inl (.of_table (by simp))
  | nodeLeavesUp =>
    have answered := MovesOut.foldl movesOut_answerLinkDown s.lostEntries s.dropNode
    exact .inl ((answered.advances.after (State.setStatus_table _ _)).before rfl)
  | launched i => exact .inl ((advances_launch _ i).before rfl)
  | responseExpired i x d inFlight =>
    have step : EntryStep (s.entryState i) (.returning x (.refusal .noResponse)) := inFlight ▸ .answered x d _
    have answered := movesOut_answer ⟨x, .inr ⟨d, inFlight⟩⟩ step
    exact .inl (answered.advances.after (State.setStatus_table _ _))
  | holdExpired i x hold held =>
    have noted : (s.noteExpiry i x hold.default).table = s.table := by simp [State.noteExpiry]
    have heldStill : (s.noteExpiry i x hold.default).entryState i = .held x hold := by
      rw [State.entryState, noted]; exact held
    exact .inl ((movesOut_applyDefault heldStill _).advances.before noted)
  | boundary | restarted | tickedOver => exact .inl (.of_table (takeBoundary_table _))
  | warned => exact .inl (.of_table (State.setStatus_table _ _))
  | lost =>
    cases mode : s.control.mode with
    | fallback => rw [State.loseSession_fallback mode]; exact .inl (.of_table rfl)
    | governed => rw [State.loseSession_governed mode]; exact .inl ((advances_enterFallback _ .liveness).before rfl)
  | nothing | synced | resent | ticked => exact .inl (.of_table rfl)

/-- A completion or the S-port's loss only frees entries (R17, R18). -/
theorem advances_stationEvent {front : Option Instr} (event : StationEvent front s t) : Advances s t := by
  cases event with
  | answerSent _ i =>
    exact GivesEntry.advances (i := i) (fun j => State.setEntry_table i j _ _) (.freed _)
  | leavesUp =>
    refine Advances.after (t := s.dropStation) (fun i => ?_) (State.setStatus_table _ _)
    have dropped : s.dropStation.table[i] = s.table[i].freeIfReturning := by simp [State.dropStation, freeReturning]
    simp only [State.generation, State.entryState, dropped, Entry.freeIfReturning]
    split
    · exact ⟨rfl, .inr (.freed _)⟩
    · exact ⟨rfl, .inl rfl⟩
  | nothing | nothingToSend | nextPart | replySent | noticeSent | refusalSent => exact .of_table rfl

/-! ### The law of the tags (R3) -/

theorem tagLaw_of_free (free : ∀ i, s.entryState i = .free) : TagLaw s := by
  intro i j x y hx
  rw [free i] at hx
  cases hx

theorem tagLaw_kept : Kept TagLaw where
  queue _ _ law := law
  powerOn _ _ _ _ := tagLaw_of_free fun i => by simp [State.entryState, State.powerOn, resetTable]
  heldLow law := law
  settle law := law
  reset _ := tagLaw_of_free fun i => by simp [State.entryState, State.managementReset, resetTable]
  event law event := (entriesMove_event event).elim (·.tagLaw law) (·.tagLaw law)
  station law event := (advances_stationEvent event).tagLaw law

end

/-- Settles O53, over how an event moves the entries: a move forward keeps an entry's request, and a request is given an
entry only when no entry in use has its station and tag. -/
theorem tagLawIsKept : Obligations.TagLawIsKept := fun _ _ law runs => tagLaw_kept.step law runs

/-- Settles O59: each event that is not a reset moves an entry forward by at most one step, or allocates a FREE one. -/
theorem entriesMoveForward : Obligations.EntriesMoveForward := by
  intro s t runs notReset notPowerOn i
  obtain ⟨choices, outcome⟩ := outcome_step runs
  cases outcome with
  | powerOn straps start resets =>
    obtain ⟨rest, queue⟩ := List.head?_eq_some_iff.1 resets
    exact absurd queue (notPowerOn straps start rest)
  | heldLow | held => exact EntryMoves.refl _
  | event u _ _ event => exact (entriesMove_event event).elim (·.entryMoves i) (·.entryMoves i)
  | station u _ event => exact (advances_stationEvent event).entryMoves i
  | resets u _ _ performed => 
    obtain ⟨awaited, lost | ⟨part, r, replies, completes, sending, head, code, done, last⟩⟩ := performed
    · obtain ⟨rest, queue⟩ := List.head?_eq_some_iff.1 lost.1
      exact absurd ⟨awaited, .inl ⟨rest, queue, lost.2⟩⟩ notReset
    · obtain ⟨rest, queue⟩ := List.head?_eq_some_iff.1 completes
      exact absurd ⟨awaited, .inr ⟨rest, part, r, replies, queue, sending, head, code, done, last⟩⟩ notReset

end Sys2Proof.Machine
end

section
/-! PROOFS. The law of the queues of entries. -/
namespace Sys2Proof.Machine

/-! ### The law with some entries taken out of the queues -/

/-- The three queues of entries hold the entries of their state, each once, but for the entries taken out of them;
HOLD_WAITING follows the hold queue (R46, R48, R172, R177). -/
structure QueuesHold (out : EntryIndex → Prop) (s : State) : Prop where
  holdsOnce : (s.holdQueue.map (·.index)).Nodup
  holds : ∀ r, r ∈ s.holdQueue ↔ ¬ out r.index
    ∧ (∃ x hold, s.entryState r.index = .held x hold) ∧ r.generation = s.generation r.index
  holdRoom : s.holdQueue.length ≤ 16
  holdWaiting : s.events.isSet .holdWaiting = !s.holdQueue.isEmpty
  queuedOnce : s.nPort.queue.Nodup
  queued : ∀ i, i ∈ s.nPort.queue ↔ ¬ out i ∧ ∃ x, s.entryState i = .queued x
  returnsOnce : s.sPort.returns.Nodup
  returns : ∀ i, i ∈ s.sPort.returns ↔ ¬ out i ∧ ∃ x a, s.entryState i = .returning x a

/-- In FALLBACK nothing is held and no commit is pending (R152). -/
def FallbackClear (s : State) : Prop := s.control.mode = .fallback → s.holdQueue = [] ∧ s.commit.state = .idle

/-- No entry is taken out. -/
def noneOut : EntryIndex → Prop := fun _ => False

theorem queueLaw_iff {s : State} : QueueLaw s ↔ QueuesHold noneOut s ∧ FallbackClear s := by
  constructor
  case mp =>
    intro law
    obtain ⟨holdsOnce, holds, holdRoom, holdWaiting, queuedOnce, queued, returnsOnce, returns, fallback⟩ := law
    refine ⟨⟨holdsOnce, fun r => ?_, holdRoom, holdWaiting, queuedOnce, fun i => ?_, returnsOnce, fun i => ?_⟩, fallback⟩
    · rw [holds r]; simp [noneOut]
    · rw [queued i]; simp [noneOut]
    · rw [returns i]; simp [noneOut]
  case mpr =>
    rintro ⟨⟨holdsOnce, holds, holdRoom, holdWaiting, queuedOnce, queued, returnsOnce, returns⟩, fallback⟩
    refine ⟨holdsOnce, fun r => ?_, holdRoom, holdWaiting, queuedOnce, fun i => ?_, returnsOnce, fun i => ?_, fallback⟩
    · rw [holds r]; simp [noneOut]
    · rw [queued i]; simp [noneOut]
    · rw [returns i]; simp [noneOut]

/-! ### The queues are the same -/

/-- The table, the three queues and HOLD_WAITING are the same. -/
structure SameQueues (s t : State) : Prop where
  table : t.table = s.table
  holds : t.holdQueue = s.holdQueue
  waiting : t.events.isSet .holdWaiting = s.events.isSet .holdWaiting
  queue : t.nPort.queue = s.nPort.queue
  returns : t.sPort.returns = s.sPort.returns

section
variable {s t u : State} {out : EntryIndex → Prop} {i : EntryIndex} {x : Txn}

theorem SameQueues.trans (h : SameQueues s t) (k : SameQueues t u) : SameQueues s u :=
  ⟨k.table.trans h.table, k.holds.trans h.holds, k.waiting.trans h.waiting, k.queue.trans h.queue,
    k.returns.trans h.returns⟩

theorem QueuesHold.of_same (law : QueuesHold out s) (same : SameQueues s t) : QueuesHold out t := by
  obtain ⟨table, holds, waiting, queue, returns⟩ := same
  constructor
  case holdsOnce => rw [holds]; exact law.holdsOnce
  case holds => simp only [State.entryState, State.generation, table, holds]; exact law.holds
  case holdRoom => rw [holds]; exact law.holdRoom
  case holdWaiting => rw [waiting, holds]; exact law.holdWaiting
  case queuedOnce => rw [queue]; exact law.queuedOnce
  case queued => simp only [State.entryState, table, queue]; exact law.queued
  case returnsOnce => rw [returns]; exact law.returnsOnce
  case returns => simp only [State.entryState, table, returns]; exact law.returns

theorem QueuesHold.congr (law : QueuesHold out s) {out' : EntryIndex → Prop} (same : ∀ j, out j ↔ out' j) :
    QueuesHold out' s := by
  obtain rfl : out = out' := funext fun j => propext (same j)
  exact law

/-! ### Entries join their queue and leave it -/

/-- The entry waits in the hold queue. -/
def EntryState.waitsHeld : EntryState → Bool
  | .held _ _ => true
  | .free | .queued _ | .inFlight _ _ | .returning _ _ => false

/-- The entry waits in the node transmit queue. -/
def EntryState.waitsQueued : EntryState → Bool
  | .queued _ => true
  | .free | .held _ _ | .inFlight _ _ | .returning _ _ => false

theorem EntryState.waitsHeld_iff {st : EntryState} : st.waitsHeld = true ↔ ∃ x hold, st = .held x hold := by
  cases st <;> simp [EntryState.waitsHeld]

theorem EntryState.waitsQueued_iff {st : EntryState} : st.waitsQueued = true ↔ ∃ x, st = .queued x := by
  cases st <;> simp [EntryState.waitsQueued]

theorem EntryState.isReturning_iff {st : EntryState} : st.isReturning = true ↔ ∃ x a, st = .returning x a := by
  cases st <;> simp [EntryState.isReturning]

theorem mem_join {α : Type} {l : List α} {a b : α} {joins : Bool} :
    b ∈ (l ++ if joins then [a] else []) ↔ b ∈ l ∨ joins = true ∧ b = a := by cases joins <;> simp

theorem nodup_join {α : Type} {l : List α} (once : l.Nodup) {a : α} (fresh : a ∉ l) (joins : Bool) :
    (l ++ if joins then [a] else []).Nodup := by
  cases joins with
  | false => simpa using once
  | true => exact List.nodup_append.2 ⟨once, by simp, fun b member c last => by
      obtain rfl := List.mem_singleton.1 last
      exact fun same => fresh (same ▸ member)⟩

/-- An entry that is taken out is given a state and joins the queue of that state. -/
theorem QueuesHold.attach (law : QueuesHold out s) (taken : out i) {g : Byte} {st : EntryState}
    (gives : GivesEntry i ⟨g, st⟩ s t)
    (holds : t.holdQueue = s.holdQueue ++ if st.waitsHeld then [⟨i, g⟩] else [])
    (room : t.holdQueue.length ≤ 16) (waiting : t.events.isSet .holdWaiting = !t.holdQueue.isEmpty)
    (queue : t.nPort.queue = s.nPort.queue ++ if st.waitsQueued then [i] else [])
    (returns : t.sPort.returns = s.sPort.returns ++ if st.isReturning then [i] else []) :
    QueuesHold (fun j => out j ∧ j ≠ i) t := by
  have given : t.entryState i = st := by simp only [State.entryState, gives i, if_true]
  have generation : t.generation i = g := by simp only [State.generation, gives i, if_true]
  have others (j : EntryIndex) (other : j ≠ i) : t.entryState j = s.entryState j ∧ t.generation j = s.generation j := by
    simp only [State.entryState, State.generation, gives j, if_neg other, and_self]
  have notHeld (r : HoldRef) (waits : r ∈ s.holdQueue) : r.index ≠ i :=
    fun same => ((law.holds r).1 waits).1 (same ▸ taken)
  have notQueued : i ∉ s.nPort.queue := fun waits => ((law.queued i).1 waits).1 taken
  have notReturning : i ∉ s.sPort.returns := fun waits => ((law.returns i).1 waits).1 taken
  constructor
  case holdRoom => exact room
  case holdWaiting => exact waiting
  case holdsOnce =>
    have indices : t.holdQueue.map (·.index) = s.holdQueue.map (·.index) ++ if st.waitsHeld then [i] else [] := by
      rw [holds, List.map_append]; split <;> rfl
    have fresh : i ∉ s.holdQueue.map (·.index) := by
      rintro waits
      obtain ⟨r, member, same⟩ := List.mem_map.1 waits
      exact notHeld r member same
    exact indices ▸ nodup_join law.holdsOnce fresh _
  case holds =>
    intro r
    rw [holds, mem_join, EntryState.waitsHeld_iff]
    by_cases same : r.index = i
    case pos =>
      have fresh : r ∉ s.holdQueue := fun waits => notHeld r waits same
      have named : r = ⟨i, g⟩ ↔ r.generation = g := ⟨fun equal => by rw [equal], fun equal => by
        cases r; cases same; cases equal; rfl⟩
      simp only [fresh, same, given, generation, named, false_or, ne_eq, not_true_eq_false, and_false, not_false_eq_true,
        true_and]
    case neg =>
      obtain ⟨state, kept⟩ := others _ same
      have other : r ≠ ⟨i, g⟩ := fun equal => same (by rw [equal])
      simp only [law.holds r, state, kept, other, same, and_false, or_false, ne_eq, not_false_eq_true, and_true]
  case queuedOnce => exact queue ▸ nodup_join law.queuedOnce notQueued _
  case queued =>
    intro j
    rw [queue, mem_join, EntryState.waitsQueued_iff]
    by_cases same : j = i
    case pos => subst same; simp [notQueued, given]
    case neg => simp [law.queued j, others j same, same]
  case returnsOnce => exact returns ▸ nodup_join law.returnsOnce notReturning _
  case returns =>
    intro j
    rw [returns, mem_join, EntryState.isReturning_iff]
    by_cases same : j = i
    case pos => subst same; simp [notReturning, given]
    case neg => simp [law.returns j, others j same, same]

/-- Entries leave their queues, the others in their order. -/
theorem QueuesHold.detach (law : QueuesHold out s) (leave : EntryIndex → Prop) (table : t.table = s.table)
    (waiting : t.events.isSet .holdWaiting = !t.holdQueue.isEmpty)
    (holdsOrder : t.holdQueue.Sublist s.holdQueue)
    (holds : ∀ r, r ∈ t.holdQueue ↔ r ∈ s.holdQueue ∧ ¬ leave r.index)
    (queueOrder : t.nPort.queue.Sublist s.nPort.queue)
    (queue : ∀ i, i ∈ t.nPort.queue ↔ i ∈ s.nPort.queue ∧ ¬ leave i)
    (returnsOrder : t.sPort.returns.Sublist s.sPort.returns)
    (returns : ∀ i, i ∈ t.sPort.returns ↔ i ∈ s.sPort.returns ∧ ¬ leave i) :
    QueuesHold (fun j => out j ∨ leave j) t := by
  constructor
  case holdsOnce => exact law.holdsOnce.sublist (holdsOrder.map _)
  case holds =>
    intro r
    simp only [holds r, law.holds r, State.entryState, State.generation, table, not_or]
    grind
  case holdRoom => exact Nat.le_trans holdsOrder.length_le law.holdRoom
  case holdWaiting => exact waiting
  case queuedOnce => exact law.queuedOnce.sublist queueOrder
  case queued =>
    intro i
    simp only [queue i, law.queued i, State.entryState, table, not_or]
    grind
  case returnsOnce => exact law.returnsOnce.sublist returnsOrder
  case returns =>
    intro i
    simp only [returns i, law.returns i, State.entryState, table, not_or]
    grind

/-- One entry is out of the queues. -/
def only (i : EntryIndex) : EntryIndex → Prop := fun j => j = i

theorem QueuesHold.settled (law : QueuesHold (fun j => out j ∧ j ≠ i) s) (last : ∀ j, out j → j = i) :
    QueuesHold noneOut s := law.congr fun j => ⟨fun ⟨taken, other⟩ => other (last j taken), False.elim⟩

theorem QueuesHold.onlyOut (law : QueuesHold (fun j => noneOut j ∨ only i j) s) : QueuesHold (only i) s :=
  law.congr fun _ => ⟨fun h => h.resolve_left id, .inr⟩

/-- An entry that waits in no queue may be taken out. -/
theorem QueuesHold.takeIdle (law : QueuesHold noneOut s) (notHeld : ∀ x hold, s.entryState i ≠ .held x hold)
    (notQueued : ∀ x, s.entryState i ≠ .queued x) (notReturning : ∀ x a, s.entryState i ≠ .returning x a) :
    QueuesHold (only i) s := by
  refine (law.detach (only i) rfl law.holdWaiting (List.Sublist.refl _) (fun r => ?_) (List.Sublist.refl _)
    (fun j => ?_) (List.Sublist.refl _) fun j => ?_).onlyOut
  · refine (and_iff_left_of_imp fun waits same => ?_).symm
    obtain ⟨-, ⟨x, hold, held⟩, -⟩ := (law.holds r).1 waits
    exact notHeld x hold (same ▸ held)
  · refine (and_iff_left_of_imp fun waits same => ?_).symm
    obtain ⟨-, x, queued⟩ := (law.queued j).1 waits
    exact notQueued x (same ▸ queued)
  · refine (and_iff_left_of_imp fun waits same => ?_).symm
    obtain ⟨-, x, a, returning⟩ := (law.returns j).1 waits
    exact notReturning x a (same ▸ returning)

theorem QueuesHold.takeFree (law : QueuesHold noneOut s) (free : s.entryState i = .free) : QueuesHold (only i) s :=
  law.takeIdle (by simp [free]) (by simp [free]) (by simp [free])

theorem QueuesHold.takeInFlight (law : QueuesHold noneOut s) {d : Nat} (inFlight : s.entryState i = .inFlight x d) :
    QueuesHold (only i) s := law.takeIdle (by simp [inFlight]) (by simp [inFlight]) (by simp [inFlight])

/-- A held entry leaves the hold queue (R46, R50). -/
theorem QueuesHold.removeHold (law : QueuesHold noneOut s) {hold : Hold} (held : s.entryState i = .held x hold)
    (b : RecordBody) : QueuesHold (only i) (s.removeHold i b) := by
  have notQueued : i ∉ s.nPort.queue := fun waits => by simp [law.queued, held] at waits
  have notReturning : i ∉ s.sPort.returns := fun waits => by simp [law.returns, held] at waits
  refine (law.detach (only i) (by simp) (by simp) (by simp) (fun r => by simp [only]) (by simp) (fun j => ?_) (by simp)
    fun j => ?_).onlyOut
  · rw [State.removeHold_nPort]
    exact (and_iff_left_of_imp fun waits (same : j = i) => notQueued (same ▸ waits)).symm
  · rw [State.removeHold_sPort_returns]
    exact (and_iff_left_of_imp fun waits (same : j = i) => notReturning (same ▸ waits)).symm

theorem QueuesHold.becomeReturning (law : QueuesHold out s) (taken : out i) (x : Txn) (a : Answer) :
    QueuesHold (fun j => out j ∧ j ≠ i) (s.becomeReturning i x a) := by
  have waiting : (s.becomeReturning i x a).events.isSet .holdWaiting = !(s.becomeReturning i x a).holdQueue.isEmpty := by
    rw [State.becomeReturning_isSet (by decide) (by decide), State.becomeReturning_holdQueue, law.holdWaiting]
  refine law.attach taken (fun j => State.becomeReturning_table i j x a s) ?_ (by simpa using law.holdRoom) waiting ?_ ?_
  all_goals cases up : s.sPort.link.isUp <;>
    simp [up, EntryState.waitsHeld, EntryState.waitsQueued, EntryState.isReturning]

theorem QueuesHold.forward (law : QueuesHold out s) (taken : out i) (x : Txn) :
    QueuesHold (fun j => out j ∧ j ≠ i) (s.forward i x) := by
  have waiting : (s.forward i x).events.isSet .holdWaiting = !(s.forward i x).holdQueue.isEmpty := by
    rw [State.forward_isSet (by decide) (by decide), State.forward_holdQueue, law.holdWaiting]
  refine law.attach taken (fun j => State.forward_table i j x s) ?_ (by simpa using law.holdRoom) waiting ?_ ?_
  all_goals cases node : s.nPort.link.isUp <;> cases station : s.sPort.link.isUp <;>
    simp [node, station, EntryState.waitsHeld, EntryState.waitsQueued, EntryState.isReturning]

/-- An entry that is out is given a state that waits in no queue. -/
theorem QueuesHold.setEntry (law : QueuesHold out s) (taken : out i) (g : Byte) {st : EntryState}
    (notHeld : st.waitsHeld = false) (notQueued : st.waitsQueued = false) (notReturning : st.isReturning = false) :
    QueuesHold (fun j => out j ∧ j ≠ i) (s.setEntry i ⟨g, st⟩) :=
  law.attach taken (fun j => State.setEntry_table i j _ s) (by simp [notHeld]) law.holdRoom law.holdWaiting
    (by simp [notQueued]) (by simp [notReturning])

/-- An entry that is out may be written. -/
theorem QueuesHold.rewrite (law : QueuesHold (only i) s) (e : Entry) : QueuesHold (only i) (s.setEntry i e) := by
  constructor
  case holds =>
    intro r
    by_cases same : r.index = i
    · have waits := law.holds r
      simpa [same, only] using waits
    · have waits := law.holds r
      simpa [same, only] using waits
  case queued =>
    intro j
    have waits := law.queued j
    by_cases same : j = i <;> simpa [same, only] using waits
  case returns =>
    intro j
    have waits := law.returns j
    by_cases same : j = i <;> simpa [same, only] using waits
  case holdsOnce => exact law.holdsOnce
  case holdRoom => exact law.holdRoom
  case holdWaiting => exact law.holdWaiting
  case queuedOnce => exact law.queuedOnce
  case returnsOnce => exact law.returnsOnce

/-- Hold Control takes an entry while its queue has room (R47). -/
theorem QueuesHold.becomeHeld (law : QueuesHold (only i) s) (x : Txn) (limit : Nat) (d : PassRefuse)
    (room : s.holdQueue.length < 16) : QueuesHold noneOut (s.becomeHeld i x limit d) := by
  have generation : (s.setEntryState i (.held x ⟨limit, d, s.now + millis limit⟩)).generation i = s.generation i := by simp
  refine (law.attach (t := s.becomeHeld i x limit d) rfl (g := s.generation i)
    (st := .held x ⟨limit, d, s.now + millis limit⟩) (fun j => ?_) ?_ ?_ ?_ ?_ ?_).settled fun _ => id
  all_goals simp [State.becomeHeld, EntryState.waitsHeld, EntryState.waitsQueued, EntryState.isReturning]
  omega

/-! ### What leaves the queues alone -/

theorem sameQueues_setStatus (s : State) {k : EventKind} (other : k ≠ .holdWaiting) : SameQueues s (s.setStatus k) := by
  constructor <;> simp [other.symm]

theorem sameQueues_logRecord (s : State) (b : RecordBody) : SameQueues s (s.logRecord b) := by constructor <;> simp

theorem sameQueues_logDecision (s : State) (x : Txn) (b : RecordBody) : SameQueues s (s.logDecision x b) := by
  cases level : x.logLevel with
  | none => simpa only [State.logDecision, level] using ⟨rfl, rfl, rfl, rfl, rfl⟩
  | decision => simpa only [State.logDecision, level] using sameQueues_logRecord s b
  | pair => simpa only [State.logDecision, level] using sameQueues_logRecord s b

theorem sameQueues_evalNotice (s : State) : SameQueues s s.evalNotice := by constructor <;> simp

theorem sameQueues_setLink (s : State) (p : PortName) (l : Link) : SameQueues s (s.setLink p l) := by
  constructor <;> cases p <;> rfl

theorem sameQueues_accept (s : State) (p : PortName) : SameQueues s (s.accept p) := by
  constructor <;> cases p <;> rfl

theorem sameQueues_takeBoundary (s : State) : SameQueues s s.takeBoundary := by
  cases state : s.commit.state with
  | idle => rw [State.takeBoundary_idle state]; exact ⟨rfl, rfl, rfl, rfl, rfl⟩
  | pending =>
    have enforced : SameQueues s (s.enforceShadow.bump .commitsApplied) := ⟨rfl, rfl, rfl, rfl, rfl⟩
    have noted := (enforced.trans (sameQueues_setStatus _ (by decide))).trans
      (sameQueues_logRecord (State.setStatus .commitApplied _) (commitRecord (nextNumber s.commit.generation)))
    rw [State.takeBoundary_pending state]
    exact ⟨noted.table, noted.holds, noted.waiting, noted.queue, noted.returns⟩

theorem sameQueues_adoptEpochLength (s : State) : SameQueues s s.adoptEpochLength := by
  rcases State.adoptEpochLength_cases s with ⟨moves, -⟩ | ⟨stays, -⟩
  · exact moves ▸ sameQueues_takeBoundary s
  · exact stays.symm ▸ ⟨rfl, rfl, rfl, rfl, rfl⟩

theorem sameQueues_noteFallback (s : State) (cause : FallbackCause) : SameQueues s (s.noteFallback cause) := by
  have recorded : SameQueues s (s.setFallbackRecord (s.nextFallbackRecord cause)) := ⟨rfl, rfl, rfl, rfl, rfl⟩
  exact (recorded.trans (sameQueues_setStatus _ (by decide))).trans (sameQueues_logRecord _ _)

theorem sameQueues_refuseAdmission (s : State) (q : Request) (c : RefusalCause) : SameQueues s (s.refuseAdmission q c) := by
  have queued (u : State) (r : AdmissionRefusal) : SameQueues u (u.queueRefusal r) := by
    unfold State.queueRefusal
    split <;> exact ⟨rfl, rfl, rfl, rfl, rfl⟩
  have flagged (u : State) : SameQueues u (u.flagFullTable c) := by
    unfold State.flagFullTable
    split
    · exact sameQueues_setStatus u (by decide)
    · exact ⟨rfl, rfl, rfl, rfl, rfl⟩
  have counted : SameQueues s (s.bump (.refusals c)) := ⟨rfl, rfl, rfl, rfl, rfl⟩
  have refused := (counted.trans (queued _ ⟨q.station, q.tag, c⟩)).trans (flagged _)
  unfold State.refuseAdmission
  dsimp only
  split
  · exact refused.trans (sameQueues_logRecord _ _)
  · exact refused

theorem sameQueues_takeStray (s : State) (r : Response) : SameQueues s (s.takeStray r) := by
  have counted : SameQueues s (s.bump .strays) := ⟨rfl, rfl, rfl, rfl, rfl⟩
  have noted := counted.trans (sameQueues_setStatus _ (k := .strayResponse) (by decide))
  unfold State.takeStray
  dsimp only
  split
  · exact noted.trans (sameQueues_logRecord _ _)
  · exact noted

/-! ### Decisions -/

theorem QueuesHold.decideHold (law : QueuesHold (only i) s) (x : Txn) (limit : Nat) (d : PassRefuse) :
    QueuesHold noneOut (s.decideHold i x limit d) := by
  unfold State.decideHold
  split
  case isTrue room =>
    exact (law.of_same (sameQueues_logDecision s x _)).becomeHeld x limit d (by simpa using room)
  case isFalse =>
    exact (((law.of_same (sameQueues_logDecision s x _)).becomeReturning rfl x _).settled fun _ => id).of_same
      (sameQueues_setStatus _ (by decide))

theorem QueuesHold.decideMeter (law : QueuesHold (only i) s) (x : Txn) (m : Fin Config.meters) :
    QueuesHold noneOut (s.decideMeter i x m) := by
  have metered (y : Meter) : QueuesHold (only i) (s.setMeter m y) := law.of_same ⟨rfl, rfl, rfl, rfl, rfl⟩
  unfold State.decideMeter
  dsimp only
  split
  · exact (((metered _).of_same (sameQueues_logDecision _ x _)).forward rfl x).settled fun _ => id
  · split
    · exact ((((metered _).of_same (sameQueues_setStatus _ (by decide))).of_same
        (sameQueues_logDecision _ x _)).becomeReturning rfl x _).settled fun _ => id
    · exact ((((metered _).of_same (sameQueues_setStatus _ (by decide))).of_same
        (sameQueues_logRecord _ _)).forward rfl x).settled fun _ => id

theorem QueuesHold.decideBy (law : QueuesHold (only i) s) (x : Txn) (a : RuleAction) :
    QueuesHold noneOut (s.decideBy i x a) := by
  cases a with
  | pass => exact ((law.of_same (sameQueues_logDecision s x _)).forward rfl x).settled fun _ => id
  | refuse => exact ((law.of_same (sameQueues_logDecision s x _)).becomeReturning rfl x _).settled fun _ => id
  | hold limit d => exact law.decideHold x limit d
  | meter m => exact law.decideMeter x m

theorem QueuesHold.allocate (law : QueuesHold noneOut s) (free : s.entryState i = .free) (q : Request) (stamp : Stamp) :
    QueuesHold noneOut (s.allocate i q stamp) := by
  have given : QueuesHold (only i) (State.bump .requestsAdmitted (s.setEntry i ⟨s.generation i + 1, .free⟩)) :=
    ((law.takeFree free).rewrite _).of_same ⟨rfl, rfl, rfl, rfl, rfl⟩
  exact given.decideBy _ _

/-! ### Holds resolved -/

theorem QueuesHold.applyDefault (law : QueuesHold (only i) s) (x : Txn) (d : PassRefuse) :
    QueuesHold noneOut (s.applyDefault i x d) := by
  cases d with
  | pass => exact (law.forward rfl x).settled fun _ => id
  | refuse => exact (law.becomeReturning rfl x _).settled fun _ => id

theorem QueuesHold.resolveByFallback (law : QueuesHold noneOut s) (r : HoldRef) :
    QueuesHold noneOut (s.resolveByFallback r) := by
  cases entry : s.entryState r.index with
  | held x hold => 
    rw [State.resolveByFallback_held entry]
    exact (law.removeHold entry _).applyDefault x _
  | free | queued | inFlight | returning => simpa only [State.resolveByFallback, entry] using law

theorem QueuesHold.resolveAll (law : QueuesHold noneOut s) (l : List HoldRef) :
    QueuesHold noneOut (l.foldl State.resolveByFallback s) := by
  induction l generalizing s with
  | nil => exact law
  | cons r l ih => exact ih (law.resolveByFallback r)

/-- Fallback entry resolves every hold and cancels a pending commit (R152, R160). -/
theorem QueueLaw.enterFallback (law : QueueLaw s) (cause : FallbackCause) : QueueLaw (s.enterFallback cause) := by
  have fell : FellBack cause s (s.enterFallback cause) := fellBack_of_frame law cause (frame_enterFallback_steps cause s)
  refine queueLaw_iff.2 ⟨?_, fun _ => ⟨fell.noHolds, by rw [fell.commit]⟩⟩
  have left : QueuesHold noneOut s.leaveGoverned := (queueLaw_iff.1 law).1.of_same ⟨rfl, rfl, rfl, rfl, rfl⟩
  have resolved := left.resolveAll s.holdQueue
  have steps : QueuesHold noneOut (s.fallbackSteps cause) := by
    rw [State.fallbackSteps_eq]
    exact (resolved.of_same (sameQueues_noteFallback _ cause)).of_same (sameQueues_adoptEpochLength _)
  have restored : QueuesHold noneOut (State.setSender s.notice s.sPort.slot (s.fallbackSteps cause)) :=
    steps.of_same ⟨rfl, rfl, rfl, rfl, rfl⟩
  exact restored.of_same (sameQueues_evalNotice _)

/-! ### FALLBACK with nothing held and no commit pending (R152) -/

theorem FallbackClear.of_kept (clear : FallbackClear s) (mode : t.control.mode = s.control.mode)
    (commit : t.commit = s.commit) (holds : s.holdQueue = [] → t.holdQueue = []) : FallbackClear t := by
  intro fallback
  obtain ⟨none, idle⟩ := clear (mode ▸ fallback)
  exact ⟨holds none, commit ▸ idle⟩

theorem takeBoundary_mode (s : State) : s.takeBoundary.control.mode = s.control.mode := by
  cases state : s.commit.state with
  | idle => exact (State.takeBoundary_rules_idle state).mode
  | pending => exact (State.takeBoundary_rules_pending state).mode

theorem takeBoundary_commit_idle (s : State) : s.takeBoundary.commit.state = .idle := by
  cases state : s.commit.state with
  | idle => rw [(State.takeBoundary_rules_idle state).commit]; exact state
  | pending => rw [(State.takeBoundary_rules_pending state).commit]

theorem QueueLaw.takeBoundary (law : QueueLaw s) : QueueLaw s.takeBoundary := by
  obtain ⟨queues, clear⟩ := queueLaw_iff.1 law
  refine queueLaw_iff.2 ⟨queues.of_same (sameQueues_takeBoundary s), fun mode => ⟨?_, takeBoundary_commit_idle s⟩⟩
  rw [(sameQueues_takeBoundary s).holds]
  exact (clear (takeBoundary_mode s ▸ mode)).1

/-- Events that leave the queues, the mode and Commit Control alone keep the law. -/
theorem QueueLaw.of_same (law : QueueLaw s) (queues : SameQueues s t) (mode : t.control.mode = s.control.mode)
    (commit : t.commit = s.commit) : QueueLaw t := by
  obtain ⟨before, clear⟩ := queueLaw_iff.1 law
  exact queueLaw_iff.2 ⟨before.of_same queues, clear.of_kept mode commit fun none => queues.holds.trans none⟩

/-- Events that leave the mode and Commit Control alone, and hold no further request, keep the law with the queues. -/
theorem QueueLaw.of_queues (law : QueueLaw s) (queues : QueuesHold noneOut s → QueuesHold noneOut t)
    (rules : SameRules s t) (holds : s.holdQueue = [] → t.holdQueue = []) : QueueLaw t := by
  obtain ⟨before, clear⟩ := queueLaw_iff.1 law
  exact queueLaw_iff.2 ⟨queues before, clear.of_kept rules.mode rules.commit holds⟩

theorem sameQueues_clearSticky (s : State) (e : EventSet) : SameQueues s (s.clearSticky e) := by
  refine ⟨rfl, rfl, ?_, rfl, rfl⟩
  simp [State.clearSticky, EventUnit.isSet, EventKind.mask, EventKind.bit]

theorem State.resumeGoverned_governed (s : State) : s.resumeGoverned.control.mode = .governed := by
  rw [State.resumeGoverned_eq]
  rcases s.recordResume.adoptEpochLength_cases with ⟨moves, -⟩ | ⟨stays, -⟩
  · rw [moves, takeBoundary_mode, State.recordResume, State.logRecord_control]; rfl
  · rw [stays, State.recordResume, State.logRecord_control]; rfl

theorem QueueLaw.execution (execution : Execution s t) (law : QueueLaw s) : QueueLaw t := by
  cases execution with
  | commits mode =>
    exact queueLaw_iff.2 ⟨(queueLaw_iff.1 law).1.of_same ⟨rfl, rfl, rfl, rfl, rfl⟩,
      fun fallback => absurd (mode.symm.trans fallback) nofun⟩
  | aborts =>
    exact queueLaw_iff.2 ⟨(queueLaw_iff.1 law).1.of_same ⟨rfl, rfl, rfl, rfl, rfl⟩,
      fun fallback => ⟨(law.fallback fallback).1, rfl⟩⟩
  | releases i x hold held =>
    refine law.of_queues (fun queues => ((queues.removeHold held _).forward rfl x).settled fun _ => id)
      (sameRules_passive.releaseHold s i x) fun none => ?_
    simp [State.releaseHold, none]
  | denies i x hold held =>
    refine law.of_queues (fun queues => ((queues.removeHold held _).becomeReturning rfl x _).settled fun _ => id)
      (sameRules_passive.denyHold s i x) fun none => ?_
    simp [State.denyHold, none]
  | clearsExceed ms =>
    obtain ⟨after, cleared, -⟩ := clearExceed_foldl ms s
    exact cleared ▸ law.of_same ⟨rfl, rfl, rfl, rfl, rfl⟩ rfl rfl
  | clearsEvents e => exact law.of_same (sameQueues_clearSticky s e) rfl rfl
  | writesEvents e l =>
    have written : SameQueues s { s with events :=
        { s.events with enable := e ||| fixedEvents, line := l ||| fixedEvents } } := ⟨rfl, rfl, rfl, rfl, rfl⟩
    exact law.of_same (written.trans (sameQueues_evalNotice _)) (by simp [State.writeEvents])
      (by simp [State.writeEvents])
  | acknowledges =>
    have idle : SameQueues s
        { s with
          notice := { s.notice with state := .idle }
          sPort := { s.sPort with slot := if s.sPort.sending = some .notice then s.sPort.slot else none } } :=
      ⟨rfl, rfl, rfl, rfl, rfl⟩
    exact law.of_same (idle.trans (sameQueues_evalNotice _)) (by simp [State.acknowledge]) (by simp [State.acknowledge])
  | entersFallback => exact law.enterFallback .command
  | resumes =>
    have governed : SameQueues s (s.setMode .governed) := ⟨rfl, rfl, rfl, rfl, rfl⟩
    have resumed := (governed.trans (sameQueues_logRecord _ _)).trans (sameQueues_adoptEpochLength s.recordResume)
    exact queueLaw_iff.2 ⟨(queueLaw_iff.1 law).1.of_same resumed,
      fun fallback => absurd (s.resumeGoverned_governed.symm.trans fallback) nofun⟩
  | nothing | loadsShadow | loadsFallback | editsLog | readsCounters | setsInterval | setsPeriod | editsEpoch
  | awaitsReset => exact law.of_same ⟨rfl, rfl, rfl, rfl, rfl⟩ rfl rfl

/-! ### Frames -/

theorem firstMatch_mem {q : Request} {offset : Nat} (slots : List (Option Rule)) :
    ∀ {n k : Nat} {r : Rule}, firstMatch q offset n slots = some (k, r) → some r ∈ slots := by
  induction slots with
  | nil => exact fun found => by cases found
  | cons slot rest ih =>
    intro n k r found
    cases slot with
    | none => exact List.mem_cons_of_mem _ (ih found)
    | some first =>
      simp only [firstMatch] at found
      split at found
      · cases found; exact List.mem_cons_self
      · exact List.mem_cons_of_mem _ (ih found)

/-- In FALLBACK no request is decided HOLD (R26). -/
theorem State.verdict_not_hold {q : Request} {offset : Nat} (fallback : s.control.mode = .fallback) (limit : Nat)
    (d : PassRefuse) : (s.verdict q offset).action ≠ .hold limit d := by
  simp only [State.verdict, fallback, verdictOf]
  split
  case h_1 k r found =>
    obtain ⟨slot, -, rule⟩ := List.mem_map.1 (firstMatch_mem _ found)
    obtain ⟨f, rfl, rfl⟩ := Option.map_eq_some_iff.1 rule
    cases action : f.action <;> simp [FallbackRule.toRule, action]
  case h_2 => cases s.fallback.missAction <;> cases requestOperation q.body <;> simp [MissAction.decides]

theorem decideBy_holdQueue {a : RuleAction} (notHold : ∀ limit d, a ≠ .hold limit d) :
    (s.decideBy i x a).holdQueue = s.holdQueue := by
  cases a with
  | pass => simp [State.decideBy, State.decidePass]
  | refuse => simp [State.decideBy, State.decideRefuse]
  | hold limit d => exact absurd rfl (notHold limit d)
  | meter m =>
    simp only [State.decideBy, State.decideMeter]
    split
    · simp
    · split <;> simp

theorem decideBy_mode (s : State) (i : EntryIndex) (x : Txn) (a : RuleAction) :
    (s.decideBy i x a).control.mode = s.control.mode ∧ (s.decideBy i x a).commit = s.commit := by
  have kept {t : State} (rules : SameRules s t) : t.control.mode = s.control.mode ∧ t.commit = s.commit :=
    ⟨rules.mode, rules.commit⟩
  cases a with
  | pass => exact kept (sameRules_passive.decidePass s i x)
  | refuse => exact kept (sameRules_passive.decideRefuse s i x)
  | hold limit d => exact kept (sameRules_passive.decideHold s i x limit d)
  | meter m =>
    rcases sameRules_passive.decideMeter s i x m with ⟨-, rules⟩ | rules
    · exact ⟨rules.mode, rules.commit⟩
    · exact ⟨rules.mode, rules.commit⟩

theorem QueueLaw.allocate (law : QueueLaw s) (free : s.entryState i = .free) (q : Request) (stamp : Stamp) :
    QueueLaw (s.allocate i q stamp) := by
  obtain ⟨queues, clear⟩ := queueLaw_iff.1 law
  refine queueLaw_iff.2 ⟨queues.allocate free q stamp, fun fallback => ?_⟩
  obtain ⟨mode, commit⟩ := decideBy_mode (State.bump .requestsAdmitted (s.setEntry i ⟨s.generation i + 1, .free⟩)) i
    (txnOf q stamp (s.verdict q stamp.offset)) (s.verdict q stamp.offset).action
  have before : s.control.mode = .fallback := mode.symm.trans fallback
  obtain ⟨none, idle⟩ := clear before
  refine ⟨?_, (congrArg CommitControl.state commit).trans idle⟩
  rw [State.allocate, decideBy_holdQueue (State.verdict_not_hold before)]
  exact none

theorem sameQueues_openFor (s : State) (h : CommandHeader) : SameQueues s (s.openFor h) := by
  have begun : SameQueues s (s.beginSession h.source) := ⟨rfl, rfl, rfl, rfl, rfl⟩
  have started := begun.trans (sameQueues_evalNotice _)
  exact ⟨started.table, started.holds, started.waiting, started.queue, started.returns⟩

theorem QueueLaw.effect (effect : FrameEffect s t) (law : QueueLaw s) : QueueLaw t := by
  cases effect with
  | refused q c =>
    have rules := sameRules_passive.refuseAdmission s sameRules_queueRefusal q c
    exact law.of_same (sameQueues_refuseAdmission s q c) rules.mode rules.commit
  | allocated q stamp i up fresh free => exact law.allocate free q stamp
  | answered i x d inFlight a =>
    exact law.of_queues (fun queues => ((queues.takeInFlight inFlight).becomeReturning rfl x a).settled fun _ => id)
      (sameRules_passive.becomeReturning s i x a) (by simp)
  | stray r =>
    have rules := sameRules_passive.takeStray s r
    exact law.of_same (sameQueues_takeStray s r) rules.mode rules.commit
  | opens h =>
    have rules := sameRules_openFor s h
    exact law.of_same (sameQueues_openFor s h) rules.mode rules.commit
  | takesOver h =>
    have rules := sameRules_openFor s.withdrawNotice h
    have withdrawn : QueueLaw s.withdrawNotice := law.of_same ⟨rfl, rfl, rfl, rfl, rfl⟩ rfl rfl
    exact withdrawn.of_same (sameQueues_openFor _ h) rules.mode rules.commit
  | executes code h o r room opened execution =>
    exact (law.execution execution).of_same ⟨rfl, rfl, rfl, rfl, rfl⟩ rfl rfl
  | discarded | overrun | turnedAway | duplicate | closes => exact law.of_same ⟨rfl, rfl, rfl, rfl, rfl⟩ rfl rfl

/-! ### Events of the line and the timers -/

/-- With the N-port's queue emptied, the entries on the node side are out (R16, R178). -/
theorem QueuesHold.dropNode (law : QueuesHold noneOut s) :
    QueuesHold (fun j => ∃ x, s.OnNodeSide j x) s.dropNode := by
  refine (law.detach (t := s.dropNode) (fun j => ∃ x, s.OnNodeSide j x) rfl law.holdWaiting (List.Sublist.refl _)
    (fun r => ?_) (List.nil_sublist _) (fun j => ?_) (List.Sublist.refl _) fun j => ?_).congr
    fun j => ⟨fun h => h.resolve_left id, .inr⟩
  · refine (and_iff_left_of_imp fun waits side => ?_).symm
    obtain ⟨-, ⟨x, hold, held⟩, -⟩ := (law.holds r).1 waits
    simp [State.OnNodeSide, held] at side
  · refine ⟨nofun, fun ⟨waits, apart⟩ => absurd ?_ apart⟩
    obtain ⟨-, x, queued⟩ := (law.queued j).1 waits
    exact ⟨x, .inl queued⟩
  · refine (and_iff_left_of_imp fun waits side => ?_).symm
    obtain ⟨-, x, a, returning⟩ := (law.returns j).1 waits
    simp [State.OnNodeSide, returning] at side

/-- Entries on the node side that are out are answered one after another. -/
theorem QueuesHold.answerLinkDown (law : QueuesHold (fun j => ∃ x, s.OnNodeSide j x) s) (i : EntryIndex) :
    QueuesHold (fun j => ∃ x, (s.answerLinkDown i).OnNodeSide j x) (s.answerLinkDown i) := by
  by_cases side : ∃ x, s.OnNodeSide i x
  case pos =>
    obtain ⟨x, onSide⟩ := id side
    rw [onSide.answerLinkDown]
    refine (law.becomeReturning side x _).congr fun j => ?_
    by_cases same : j = i
    · subst same
      cases up : s.sPort.link.isUp <;> simp [State.OnNodeSide, up]
    · simp [State.OnNodeSide, same]
  case neg =>
    have stays : s.answerLinkDown i = s := by
      cases entry : s.entryState i with
      | queued x => exact absurd ⟨x, .inl entry⟩ side
      | inFlight x d => exact absurd ⟨x, .inr ⟨d, entry⟩⟩ side
      | free | held | returning => simp only [State.answerLinkDown, entry]
    rwa [stays]

theorem QueuesHold.answerAll (l : List EntryIndex) : ∀ {s : State}, QueuesHold (fun j => ∃ x, s.OnNodeSide j x) s →
    QueuesHold (fun j => ∃ x, (l.foldl State.answerLinkDown s).OnNodeSide j x) (l.foldl State.answerLinkDown s) := by
  induction l with
  | nil => exact id
  | cons i l ih => exact fun law => ih (law.answerLinkDown i)

theorem answerAll_holdQueue (l : List EntryIndex) (s : State) :
    (l.foldl State.answerLinkDown s).holdQueue = s.holdQueue := by
  induction l generalizing s with
  | nil => rfl
  | cons i l ih =>
    refine (ih _).trans ?_
    cases entry : s.entryState i <;> simp [State.answerLinkDown, entry]

/-- When the entries on the node side are answered, none is left there. -/
theorem AnsweredLinkDown.not_onNodeSide {l : List EntryIndex} (answered : AnsweredLinkDown l s t)
    (side : ∀ i, i ∈ l ↔ ∃ x, s.OnNodeSide i x) (j : EntryIndex) (x : Txn) : ¬ t.OnNodeSide j x := by
  intro left
  by_cases lost : j ∈ l
  case pos =>
    obtain ⟨y, before⟩ := (side j).1 lost
    have state := congrArg Entry.state (answered.entry j lost y before)
    have now : t.entryState j = if s.sPort.link.isUp then .returning y (.refusal .linkDown) else .free := state
    rw [State.OnNodeSide, now] at left
    split at left <;> simp at left
  case neg =>
    rw [State.OnNodeSide, answered.entryState lost] at left
    exact lost ((side j).2 ⟨x, left⟩)

theorem QueueLaw.nodeLeavesUp (law : QueueLaw s) : QueueLaw s.nodeLeavesUp := by
  have answered := answeredLinkDown_foldl law.lostEntries_nodup (s := s.dropNode) fun _ lost => law.mem_lostEntries.1 lost
  refine law.of_queues (fun queues => ?_) (sameRules_passive.nodeLeavesUp s) fun none => ?_
  case refine_1 =>
    refine QueuesHold.of_same ?_ (sameQueues_setStatus _ (by decide))
    refine (QueuesHold.answerAll s.lostEntries queues.dropNode).congr fun j => ⟨fun ⟨x, left⟩ => ?_, False.elim⟩
    exact answered.not_onNodeSide (fun _ => law.mem_lostEntries) j x left
  case refine_2 =>
    have kept := answerAll_holdQueue s.lostEntries s.dropNode
    exact (State.setStatus_holdQueue _ _).trans (kept.trans none)

/-- The entry transmitted leaves the node transmit queue (R10). -/
theorem QueuesHold.leaveNodeQueue (law : QueuesHold noneOut s) {rest : List EntryIndex}
    (head : s.nPort.queue = i :: rest) (busy : Bool) :
    QueuesHold (only i) { s with nPort := { s.nPort with queue := rest, busy := busy } } := by
  have once : i ∉ rest ∧ rest.Nodup := List.nodup_cons.1 (head ▸ law.queuedOnce)
  obtain ⟨-, x, queued⟩ := (law.queued i).1 (by simp [head])
  refine (law.detach (t := { s with nPort := { s.nPort with queue := rest, busy := busy } }) (only i) rfl
    law.holdWaiting (List.Sublist.refl _) (fun r => ?_) (by simp [head]) (fun j => ?_) (List.Sublist.refl _)
    fun j => ?_).onlyOut
  · refine (and_iff_left_of_imp fun waits same => ?_).symm
    obtain ⟨-, ⟨y, hold, held⟩, -⟩ := (law.holds r).1 waits
    rw [show r.index = i from same, queued] at held
    cases held
  · rw [head, List.mem_cons]
    refine ⟨fun waits => ⟨.inr waits, fun same => once.1 (same ▸ waits)⟩, fun ⟨waits, other⟩ => waits.resolve_left other⟩
  · refine (and_iff_left_of_imp fun waits same => ?_).symm
    obtain ⟨-, y, a, returning⟩ := (law.returns j).1 waits
    rw [show j = i from same, queued] at returning
    cases returning

theorem QueueLaw.launched (law : QueueLaw s) {rest : List EntryIndex} (head : s.nPort.queue = i :: rest) :
    QueueLaw (State.launch i { s with nPort := { s.nPort with queue := rest, busy := false } }) := by
  obtain ⟨x, queued⟩ := (law.queued i).1 (by simp [head])
  have entry : State.entryState { s with nPort := { s.nPort with queue := rest, busy := false } } i = .queued x := queued
  simp only [State.launch, entry]
  exact law.of_queues (fun queues => ((queues.leaveNodeQueue head false).setEntry rfl _ rfl rfl rfl).settled fun _ => id)
    rfl id

theorem QueueLaw.event (event : Event s t) (law : QueueLaw s) : QueueLaw t := by
  cases event with
  | relinked p l => exact law.of_same (sameQueues_setLink s p l) (by simp) (by simp)
  | dropped p l c =>
    have counted : SameQueues s (s.bump c) := ⟨rfl, rfl, rfl, rfl, rfl⟩
    exact law.of_same (counted.trans (sameQueues_setLink _ p l)) (by simp) (by simp)
  | linkChanged p l =>
    exact law.of_same ((sameQueues_setLink s p l).trans (sameQueues_setStatus _ (by decide))) (by simp [State.changeLink])
      (by simp [State.changeLink])
  | nodeLeavesUp => exact law.nodeLeavesUp
  | launched i rest busy head => exact law.launched head
  | responseExpired i x d inFlight =>
    refine law.of_queues (fun queues => ?_)
      ((sameRules_passive.becomeReturning s i x _).trans (SameRules.setStatus rfl _)) (by simp)
    exact (((queues.takeInFlight inFlight).becomeReturning rfl x _).settled fun _ => id).of_same
      (sameQueues_setStatus _ (by decide))
  | holdExpired i x hold held =>
    refine law.of_queues (fun queues => ?_)
      ((sameRules_passive.noteExpiry s i x _).trans (sameRules_passive.applyDefault _ i x _)) fun none => ?_
    · exact ((queues.removeHold held _).of_same (sameQueues_setStatus _ (by decide))).applyDefault x _
    · cases hold.default <;> simp [State.applyDefault, State.noteExpiry, none]
  | boundary => exact law.takeBoundary
  | restarted =>
    have captured : QueueLaw s.captureSync := law.of_same ⟨rfl, rfl, rfl, rfl, rfl⟩ rfl rfl
    exact captured.takeBoundary
  | warned =>
    have warned : SameQueues s (s.setLiveness (.warned s.livenessDeadline)) := ⟨rfl, rfl, rfl, rfl, rfl⟩
    exact law.of_same (warned.trans (sameQueues_setStatus _ (by decide))) (by simp [State.warnLiveness])
      (by simp [State.warnLiveness])
  | lost =>
    cases mode : s.control.mode with
    | fallback => rw [State.loseSession_fallback mode]; exact law.endSession
    | governed => rw [State.loseSession_governed mode]; exact law.endSession.enterFallback _
  | tickedOver =>
    have passed : QueueLaw { s with now := s.now + 1 } := law.of_same ⟨rfl, rfl, rfl, rfl, rfl⟩ rfl rfl
    exact passed.takeBoundary
  | accepted p t effect =>
    exact (law.of_same (sameQueues_accept s p) (by simp) (by simp)).effect effect
  | nothing | synced | resent | ticked => exact law.of_same ⟨rfl, rfl, rfl, rfl, rfl⟩ rfl rfl

/-- The entry answered leaves the Return queue (R174). -/
theorem QueuesHold.leaveReturns (law : QueuesHold noneOut s) {rest : List EntryIndex}
    (head : s.sPort.returns = i :: rest) (sending : Option Sending) :
    QueuesHold (only i) { s with sPort := { s.sPort with returns := rest, sending := sending } } := by
  have once : i ∉ rest ∧ rest.Nodup := List.nodup_cons.1 (head ▸ law.returnsOnce)
  obtain ⟨-, x, a, returning⟩ := (law.returns i).1 (by simp [head])
  refine (law.detach (t := { s with sPort := { s.sPort with returns := rest, sending := sending } }) (only i) rfl
    law.holdWaiting (List.Sublist.refl _) (fun r => ?_) (List.Sublist.refl _) (fun j => ?_) (by simp [head])
    fun j => ?_).onlyOut
  · refine (and_iff_left_of_imp fun waits same => ?_).symm
    obtain ⟨-, ⟨y, hold, held⟩, -⟩ := (law.holds r).1 waits
    rw [show r.index = i from same, returning] at held
    cases held
  · refine (and_iff_left_of_imp fun waits same => ?_).symm
    obtain ⟨-, y, queued⟩ := (law.queued j).1 waits
    rw [show j = i from same, returning] at queued
    cases queued
  · rw [head, List.mem_cons]
    refine ⟨fun waits => ⟨.inr waits, fun same => once.1 (same ▸ waits)⟩, fun ⟨waits, other⟩ => waits.resolve_left other⟩

/-- The S-port's loss empties the Return queue and frees the entries in it (R18, R175). -/
theorem QueuesHold.dropStation (law : QueuesHold noneOut s) : QueuesHold noneOut s.dropStation := by
  have dropped (i : EntryIndex) : s.dropStation.table[i] = s.table[i].freeIfReturning := by
    simp [State.dropStation, freeReturning]
  have generation (i : EntryIndex) : s.dropStation.generation i = s.generation i := by
    simp only [State.generation, dropped, Entry.freeIfReturning]
    split <;> rfl
  have state (i : EntryIndex) : s.dropStation.entryState i
      = if (s.entryState i).isReturning then .free else s.entryState i := by
    simp only [State.entryState, dropped, Entry.freeIfReturning, apply_ite Entry.state]
    rfl
  constructor
  case holdsOnce => exact law.holdsOnce
  case holds =>
    intro r
    rw [generation, state, show s.dropStation.holdQueue = s.holdQueue from rfl, law.holds r]
    cases s.entryState r.index <;> simp [EntryState.isReturning]
  case holdRoom => exact law.holdRoom
  case holdWaiting => exact law.holdWaiting
  case queuedOnce => exact law.queuedOnce
  case queued =>
    intro i
    rw [state, show s.dropStation.nPort.queue = s.nPort.queue from rfl, law.queued i]
    cases s.entryState i <;> simp [EntryState.isReturning]
  case returnsOnce => exact List.nodup_nil
  case returns =>
    intro i
    rw [state, show s.dropStation.sPort.returns = [] from rfl]
    cases s.entryState i <;> simp [EntryState.isReturning]

theorem QueueLaw.stationEvent {front : Option Instr} (event : StationEvent front s t) (law : QueueLaw s) :
    QueueLaw t := by
  cases event with
  | answerSent _ i rest _ head =>
    exact law.of_queues (fun queues => ((queues.leaveReturns head none).setEntry rfl _ rfl rfl rfl).settled fun _ => id)
      rfl id
  | leavesUp =>
    exact law.of_queues (fun queues => queues.dropStation.of_same (sameQueues_setStatus _ (by decide)))
      (SameRules.setStatus rfl _) fun none => (State.setStatus_holdQueue _ _).trans none
  | nothing | nothingToSend | nextPart | replySent | noticeSent | refusalSent =>
    exact law.of_same ⟨rfl, rfl, rfl, rfl, rfl⟩ rfl rfl

theorem resetEvents_clear : resetEvents.isSet .holdWaiting = false := by decide

/-- With every entry FREE and no queue in use, the law holds (R21, R22). -/
theorem queueLaw_of_empty (free : ∀ i, s.entryState i = .free) (holds : s.holdQueue = [])
    (waiting : s.events.isSet .holdWaiting = false) (queue : s.nPort.queue = []) (returns : s.sPort.returns = [])
    (idle : s.commit.state = .idle) : QueueLaw s := by
  constructor <;> simp [free, holds, waiting, queue, returns, idle]

theorem queueLaw_kept : Kept QueueLaw where
  queue _ _ law := law.of_same ⟨rfl, rfl, rfl, rfl, rfl⟩ rfl rfl
  powerOn _ _ _ _ :=
    queueLaw_of_empty (fun i => by simp [State.entryState, State.powerOn, resetTable]) rfl resetEvents_clear rfl rfl rfl
  heldLow law := law.of_same ⟨rfl, rfl, rfl, rfl, rfl⟩ rfl rfl
  settle law := law.of_same ⟨rfl, rfl, rfl, rfl, rfl⟩ rfl rfl
  reset _ :=
    queueLaw_of_empty (fun i => by simp [State.entryState, State.managementReset, resetTable]) rfl resetEvents_clear
      rfl rfl rfl
  event law event := law.event event
  station law event := law.stationEvent event

end

/-- Settles O52, over what a step can do: an entry leaves the queue of the state it leaves and joins the queue of the state
it reaches, and a fallback entry resolves every hold. -/
theorem queueLawIsKept : Obligations.QueueLawIsKept := fun _ _ law runs => queueLaw_kept.step law runs

/-- Settles O51: each law is kept, and every power-on reset meets it. -/
theorem lawsHoldAtReset : Obligations.LawsHoldAtReset :=
  ⟨queueLaw_kept.powerOn _ _ _ _, tagLaw_kept.powerOn _ _ _ _, meterLaw_kept.powerOn _ _ _ _,
    windowLaw_kept.powerOn _ _ _ _, ruleLaw_kept.powerOn _ _ _ _, sessionLaw_kept.powerOn _ _ _ _, rangeLaw_reset⟩

end Sys2Proof.Machine
end

section
/-! PROOFS. Answers: a response that matches, a response deadline, the release and the denial of a held request. -/
namespace Sys2Proof.Machine

/-! ### A response deadline expires (R15) -/

theorem completionRecords_noResponse (x : Txn) : completionRecords x (.refusal .noResponse)
    = if x.logLevel = .pair then [txnRecord .timedOut x (some (.refusal .noResponse)) []] else [] := by
  cases level : x.logLevel <;> simp [completionRecords, completionRecord, level]

theorem completionRecords_node (x : Txn) (status : NodeStatus) (detail : Byte) (data : List Byte) :
    completionRecords x (.node status detail data)
      = if x.logLevel = .pair then [txnRecord .completed x (some (.nodeStatus status)) (data.take 8)] else [] := by
  cases level : x.logLevel <;> simp [completionRecords, completionRecord, level, snippetOf]

theorem exec_responseDeadlineExpiry {i : EntryIndex} {x : Txn} {d : Nat} {s : State} (running : s.heldInReset = false)
    (inFlight : s.entryState i = .inFlight x d) : exec (.responseDeadlineExpiry i) s
      = .next ((s.becomeReturning i x (.refusal .noResponse)).setStatus .responseTimeout).settle := by
  show taken (State.expireResponse i) s = _
  rw [taken_running running]
  simp only [State.expireResponse, inFlight]

/-- An answer stays given over the setting of a status. -/
theorem GivenAnswer.setStatus {i : EntryIndex} {g : Byte} {x : Txn} {a : Answer} {s t : State}
    (h : GivenAnswer i g x a s t) (k : EventKind) : GivenAnswer i g x a s (t.setStatus k) := by
  constructor
  case entry => simpa using h.entry
  case returns => simpa using h.returns
  case discarded => simpa using h.discarded
  case counted => simpa using h.counted

/-- Settles O20: the answer NO_RESPONSE, then the status. -/
theorem responseDeadlineExpires : Obligations.ResponseDeadlineExpires := by
  intro i x d s running inFlight records
  have same : completionRecords x (.refusal .noResponse) = records := completionRecords_noResponse x
  have given := becomeReturning_given i x (.refusal .noResponse) s
  have frame := frame_becomeReturning i x (.refusal .noResponse) s
  rw [same] at frame
  refine ⟨_, exec_responseDeadlineExpiry running inFlight, (given.setStatus .responseTimeout).settle, ?_, ?_, ?_⟩
  · simp
  · simp [same]
  · refine ((frame.trans (frame_setStatus .responseTimeout _)).trans (frame_settle _)).mono ?_
    simp only [List.mem_append]
    grind

/-! ### A response that matches (R11) -/

/-- By the law of the tags, an entry that a response matches is the one found for it (R3). -/
theorem TagLaw.responseMatch {s : State} (law : TagLaw s) {r : Response} {i : EntryIndex} {x : Txn} {d : Nat}
    (inFlight : s.entryState i = .inFlight x d) (station : x.request.station = r.station)
    (tag : x.request.tag = r.tag) (node : x.request.node = r.node) : s.responseMatch r = some (i, x) := by
  cases found : s.responseMatch r with
  | none =>
    rw [State.responseMatch, List.findSome?_eq_none_iff] at found
    simpa [inFlight, station, tag, node] using found i (by simp [entryIndices])
  | some pair =>
    obtain ⟨j, y⟩ := pair
    obtain ⟨⟨e, other⟩, sameStation, sameTag, -⟩ := State.responseMatch_some found
    have one : j = i := by
      refine law j i y x ?_ ?_ (sameStation.trans station.symm) (sameTag.trans tag.symm)
      · rw [other]; rfl
      · rw [inFlight]; rfl
    subst one
    obtain ⟨rfl, -⟩ := EntryState.inFlight.inj (inFlight.symm.trans other)
    rfl

theorem exec_responseArrival_matched {s : State} {r : Response} {i : EntryIndex} {x : Txn}
    (reaches : FrameReaches .node s) (matched : s.responseMatch r = some (i, x)) : exec (.responseArrival r) s
      = .next ((s.accept .node).becomeReturning i x (.node r.status r.detail r.data)).settle := by
  have kept : (s.accept .node).responseMatch r = s.responseMatch r := by simp [State.responseMatch]
  show execResponseArrival r s = _
  simp [execResponseArrival, acceptedAt_reaches reaches, kept, matched]

/-! ### What an answer and a forward step read -/

/-- Two states are alike in what an answer and a forward step read: whether each port is UP, the queues they join, and the
counters they move (R8, R9). -/
structure AnswersAlike (s u : State) : Prop where
  stationUp : u.sPort.link.isUp = s.sPort.link.isUp
  nodeUp : u.nPort.link.isUp = s.nPort.link.isUp
  returns : u.sPort.returns = s.sPort.returns
  queue : u.nPort.queue = s.nPort.queue
  discarded : u.count .answersDiscarded = s.count .answersDiscarded
  refusals : ∀ c, u.count (.refusals c) = s.count (.refusals c)

/-- What states alike in this way have the same. -/
def answerReads : List Part :=
  [.link .station, .link .node, .returns, .nodeQueue, .counter .answersDiscarded]

section
variable {s t u : State}

theorem AnswersAlike.trans (h : AnswersAlike s t) (k : AnswersAlike t u) : AnswersAlike s u :=
  ⟨k.stationUp.trans h.stationUp, k.nodeUp.trans h.nodeUp, k.returns.trans h.returns, k.queue.trans h.queue,
    k.discarded.trans h.discarded, fun c => (k.refusals c).trans (h.refusals c)⟩

theorem AnswersAlike.of_frame {changed : List Part} (frame : SameBut changed s u)
    (apart : ∀ p ∈ answerReads, p ∉ changed) (refusals : ∀ c, Part.counter (.refusals c) ∉ changed) :
    AnswersAlike s u := by
  have stationLink : u.sPort.link = s.sPort.link := frame _ (apart (.link .station) (by simp [answerReads]))
  have nodeLink : u.nPort.link = s.nPort.link := frame _ (apart (.link .node) (by simp [answerReads]))
  exact ⟨by rw [stationLink], by rw [nodeLink], frame _ (apart .returns (by simp [answerReads])),
    frame _ (apart .nodeQueue (by simp [answerReads])),
    frame _ (apart (.counter .answersDiscarded) (by simp [answerReads])), fun c => frame _ (refusals c)⟩

/-- The port whose frame has been accepted was UP, and is (R68, R168). -/
theorem answersAlike_accept {p : PortName} (reaches : FrameReaches p s) : AnswersAlike s (s.accept p) := by
  constructor
  case stationUp =>
    cases p
    case station => exact reaches.linkUp.symm
    case node => rfl
  case nodeUp =>
    cases p
    case station => rfl
    case node => exact reaches.linkUp.symm
  case returns => simp
  case queue => simp
  case discarded => simp
  case refusals => simp

variable {i : EntryIndex} {g : Byte} {x : Txn} {a : Answer}

theorem GivenAnswer.from_alike (h : GivenAnswer i g x a u t) (alike : AnswersAlike s u) : GivenAnswer i g x a s t := by
  constructor
  case entry => rw [h.entry, alike.stationUp]
  case returns => rw [h.returns, alike.stationUp, alike.returns]
  case discarded => rw [h.discarded, alike.stationUp, alike.discarded]
  case counted => intro c refusal; rw [h.counted c refusal, alike.refusals]

theorem Forwarded.from_alike (h : Forwarded i g x u t) (alike : AnswersAlike s u) : Forwarded i g x s t := by
  constructor
  case up => intro isUp; rw [← alike.queue]; exact h.up (alike.nodeUp.trans isUp)
  case notUp => exact fun notUp => (h.notUp (alike.nodeUp.trans notUp)).from_alike alike

theorem AnswersAlike.forwardParts (alike : AnswersAlike s u) (i : EntryIndex) : forwardParts i u = forwardParts i s := by
  simp only [Machine.forwardParts, alike.nodeUp]

theorem AnswersAlike.forwardRecords (alike : AnswersAlike s u) (x : Txn) : forwardRecords x u = forwardRecords x s := by
  simp only [Machine.forwardRecords, alike.nodeUp]

/-- What comes after an answer and leaves what it wrote does not take it back. -/
theorem GivenAnswer.kept {changed : List Part} (h : GivenAnswer i g x a s t) (after : SameBut changed t u)
    (apart : ∀ p ∈ .entry i :: answerReads, p ∉ changed) (refusals : ∀ c, Part.counter (.refusals c) ∉ changed) :
    GivenAnswer i g x a s u := by
  constructor
  case entry => exact (after (.entry i) (apart _ (by simp))).trans h.entry
  case returns => exact (after .returns (apart _ (by simp [answerReads]))).trans h.returns
  case discarded => exact (after (.counter .answersDiscarded) (apart _ (by simp [answerReads]))).trans h.discarded
  case counted => exact fun c refusal => (after _ (refusals c)).trans (h.counted c refusal)

theorem Forwarded.kept {changed : List Part} (h : Forwarded i g x s t) (after : SameBut changed t u)
    (apart : ∀ p ∈ .entry i :: answerReads, p ∉ changed) (refusals : ∀ c, Part.counter (.refusals c) ∉ changed) :
    Forwarded i g x s u := by
  constructor
  case up =>
    intro isUp
    obtain ⟨entry, queue⟩ := h.up isUp
    exact ⟨(after (.entry i) (apart _ (by simp))).trans entry,
      (after .nodeQueue (apart _ (by simp [answerReads]))).trans queue⟩
  case notUp => exact fun notUp => (h.notUp notUp).kept after apart refusals

end

/-- Settles O18: the entry matched is the only one the response can match, and is given its answer. -/
theorem responseAnswersEntry : Obligations.ResponseAnswersEntry := by
  intro r i x d s reaches law inFlight station tag node records
  have same : completionRecords x (.node r.status r.detail r.data) = records := completionRecords_node x _ _ _
  have effect := (frame_becomeReturning i x (.node r.status r.detail r.data) (s.accept .node)).trans (frame_settle _)
  rw [same, List.append_nil] at effect
  refine ⟨_, exec_responseArrival_matched reaches (law.responseMatch inFlight station tag node),
    FrameTaken.of_effect effect ?_ ?_, ?_, ?_, ?_⟩
  · simp [answerParts, mem_loggingParts, recordParts, noticeParts]
  · simp [answerParts, mem_loggingParts, recordParts, noticeParts]
  · have given := becomeReturning_given i x (.node r.status r.detail r.data) (s.accept .node)
    rw [State.accept_generation] at given
    exact (given.from_alike (answersAlike_accept reaches)).settle
  · simp [same]
  · exact ((frame_accept .node s).trans effect).mono (by simp)

/-! ### A held request released or denied (R54, R55) -/

section
variable {s : State} {i : EntryIndex} {x : Txn} {hold : Hold}

/-- A reference of two bytes names the entry of its index (R53). -/
theorem readHoldRef_named (i : EntryIndex) (g : Byte) : readHoldRef [BitVec.ofNat 8 i.val, g] = some ⟨i, g⟩ := by
  have index : field [BitVec.ofNat 8 i.val, g] 0 1 = i.val := by
    rw [field_one, BitVec.toNat_ofNat, Nat.mod_eq_of_lt (by have := i.isLt; simp only [Config.entries] at this; omega)]
  simp [readHoldRef, index, byteAt]

theorem State.heldBy_held (held : s.entryState i = .held x hold) : s.heldBy ⟨i, s.generation i⟩ = some x := by
  simp [State.heldBy, held]

theorem onHeld_held (held : s.entryState i = .held x hold) (resolve : HoldRef → Txn → State → Answered) :
    onHeld [BitVec.ofNat 8 i.val, s.generation i] resolve s = resolve ⟨i, s.generation i⟩ x s := by
  simp only [onHeld, readHoldRef_named, State.heldBy_held held]

theorem answersAlike_removeHold (i : EntryIndex) (b : RecordBody) (s : State) : AnswersAlike s (s.removeHold i b) :=
  .of_frame (frame_removeHold i b s) (by decide) (by simp [statusParts, recordParts, noticeParts])

/-- The state code that RELEASE reports (R54). -/
theorem releaseHold_code (i : EntryIndex) (x : Txn) (up : s.sPort.link.isUp = true) :
    ((s.releaseHold i x).entryState i).code = if s.nPort.link.isUp then 2 else 4 := by
  cases node : s.nPort.link.isUp <;> simp [State.releaseHold, node, up, EntryState.code]

end

/-- The refusal HOLD_DENIED has no completion record (R20). -/
theorem completionRecords_holdDenied (x : Txn) : completionRecords x (.refusal .holdDenied) = [] := by
  simp [completionRecords, completionRecord]

theorem exec_release (h : CommandHeader) (args : List Byte) (s : State) :
    exec (.release h args) s = command .release h args (onHeld args releaseBody) s := rfl

theorem exec_deny (h : CommandHeader) (args : List Byte) (s : State) :
    exec (.deny h args) s = command .deny h args (onHeld args denyBody) s := rfl

section
variable {h : CommandHeader} {o : OpenSession} {i : EntryIndex} {x : Txn} {hold : Hold} {s : State}

/-- The parts a release may change. -/
def releaseParts (i : EntryIndex) (s : State) : List Part :=
  [.holdQueue] ++ statusParts .holdWaiting ++ forwardParts i s ++ recordParts

/-- The parts a denial may change. -/
def denyParts (i : EntryIndex) : List Part :=
  [.holdQueue] ++ statusParts .holdWaiting ++ answerParts i (.refusal .holdDenied) ++ recordParts

theorem frame_releaseHold (i : EntryIndex) (x : Txn) (s : State) :
    SameBut (releaseParts i s) s (s.releaseHold i x) := by
  have alike := answersAlike_removeHold i (holdRecord .released x none false) s
  have forwards := frame_forward i x (s.removeHold i (holdRecord .released x none false))
  rw [alike.forwardParts] at forwards
  refine ((frame_removeHold i _ s).trans forwards).mono ?_
  simp only [releaseParts, List.mem_append, mem_loggingParts]
  grind

theorem frame_denyHold (i : EntryIndex) (x : Txn) (s : State) : SameBut (denyParts i) s (s.denyHold i x) := by
  have answers := frame_becomeReturning i x (.refusal .holdDenied)
    (s.removeHold i (holdRecord .denied x (some .holdDenied) false))
  rw [completionRecords_holdDenied] at answers
  refine ((frame_removeHold i _ s).trans answers).mono ?_
  simp only [denyParts, loggingParts_nil, List.mem_append]
  grind

theorem releaseHold_forwarded (i : EntryIndex) (x : Txn) (s : State) :
    Forwarded i (s.generation i) x s (s.releaseHold i x) := by
  have forwarded := forward_forwarded i x (s.removeHold i (holdRecord .released x none false))
  rw [State.removeHold_generation] at forwarded
  exact forwarded.from_alike (answersAlike_removeHold i _ s)

theorem denyHold_given (i : EntryIndex) (x : Txn) (s : State) :
    GivenAnswer i (s.generation i) x (.refusal .holdDenied) s (s.denyHold i x) := by
  have given := becomeReturning_given i x (.refusal .holdDenied)
    (s.removeHold i (holdRecord .denied x (some .holdDenied) false))
  rw [State.removeHold_generation] at given
  exact given.from_alike (answersAlike_removeHold i _ s)

/-- What a command does to its own frame and reply is apart from a release and a denial. -/
theorem releaseParts_apart (i : EntryIndex) (s : State) :
    ∀ p ∈ [.counter (.framesAccepted .station), .link .station, .replies, .now], p ∉ releaseParts i s := by
  unfold releaseParts forwardParts answerParts
  split <;> simp [statusParts, recordParts, noticeParts]

theorem denyParts_apart (i : EntryIndex) :
    ∀ p ∈ [.counter (.framesAccepted .station), .link .station, .replies, .now], p ∉ denyParts i := by
  simp [denyParts, answerParts, statusParts, recordParts, noticeParts]

/-- A request that a reference names, released or denied by a new command. -/
theorem heldCommand_answers {resolve : HoldRef → Txn → State → Answered} (new : NewCommand h o s)
    (held : s.entryState i = .held x hold) (c : CommandName) (form : 2 = c.argBytes) {payload : List Byte}
    {changed : List Part} {u : State}
    (answer : resolve ⟨i, s.generation i⟩ x (s.accept .station) = u.answer .done payload)
    (frame : SameBut changed (s.accept .station) u)
    (others : ∀ p ∈ [.counter (.framesAccepted .station), .link .station, .replies, .now], p ∉ changed) :
    ∃ t, command c h [BitVec.ofNat 8 i.val, s.generation i] (onHeld [BitVec.ofNat 8 i.val, s.generation i] resolve) s
        = .next t
      ∧ Answers c.code h o .done payload changed s t ∧ SameBut [.session, .liveness, .replies] u t := by
  refine command_answers_state new c _ form ?_ frame others
  have heldNow : (s.accept .station).entryState i = .held x hold := by rw [State.accept_entryState]; exact held
  rw [← State.accept_generation .station i s] at answer ⊢
  rw [onHeld_held heldNow, answer]

end

section
variable (i : EntryIndex) (x : Txn) (s : State)

theorem State.releaseHold_holdQueue :
    (s.releaseHold i x).holdQueue = s.holdQueue.filter fun r => r.index ≠ i := by simp [State.releaseHold]

theorem State.denyHold_holdQueue :
    (s.denyHold i x).holdQueue = s.holdQueue.filter fun r => r.index ≠ i := by simp [State.denyHold]

theorem State.releaseHold_holdWaiting : (s.releaseHold i x).events.isSet .holdWaiting
    = !(s.holdQueue.filter fun r => r.index ≠ i).isEmpty := by simp [State.releaseHold, State.forward_isSet]

theorem State.denyHold_holdWaiting : (s.denyHold i x).events.isSet .holdWaiting
    = !(s.holdQueue.filter fun r => r.index ≠ i).isEmpty := by simp [State.denyHold, State.becomeReturning_isSet]

theorem State.releaseHold_log : (s.releaseHold i x).log
    = logAfterAll s.epoch s.log (holdRecord .released x none false :: forwardRecords x s) := by
  simp [State.releaseHold, (answersAlike_removeHold i _ s).forwardRecords]

theorem State.denyHold_log : (s.denyHold i x).log
    = logAfterAll s.epoch s.log [holdRecord .denied x (some .holdDenied) false] := by
  simp [State.denyHold, completionRecords_holdDenied]

end

/-- Settles O25: RELEASE is the removal and the forward step, DENY the removal and the answer, and neither accepting the
frame nor answering it touches what they write. -/
theorem heldRequestIsReleasedOrDenied : Obligations.HeldRequestIsReleasedOrDenied := by
  rintro h o i g x hold s new held rfl ref left released denied
  have reaches := new.reaches.reaches
  have alike := answersAlike_accept reaches
  have stationUp : (s.accept .station).sPort.link.isUp = true := alike.stationUp.trans reaches.linkUp
  refine ⟨?release, ?deny⟩
  case release =>
    have records : holdRecord .released x none false :: forwardRecords x (s.accept .station) = released := by
      rw [alike.forwardRecords]
    have forwarded := (releaseHold_forwarded i x (s.accept .station)).from_alike alike
    obtain ⟨t, taken, answers, after⟩ := heldCommand_answers (resolve := releaseBody) new held .release rfl rfl
      (frame_releaseHold i x (s.accept .station)) (releaseParts_apart i _)
    have queueKept : t.holdQueue = _ := after .holdQueue (by decide)
    have statusKept : t.events.isSet .holdWaiting = _ := after (.status .holdWaiting) (by decide)
    have logKept : t.log = _ := after .log (by decide)
    rw [State.accept_generation] at forwarded
    rw [releaseHold_code i x stationUp, alike.nodeUp, releaseParts, alike.forwardParts] at answers
    refine ⟨t, taken, ?_, forwarded.kept after ?_ ?_, ?_, ?_, ?_⟩
    · exact answers
    · simp [answerReads]
    · simp
    · rw [queueKept, State.releaseHold_holdQueue, State.accept_holdQueue]
    · rw [statusKept, State.releaseHold_holdWaiting, State.accept_holdQueue]
    · rw [logKept, State.releaseHold_log, records, State.accept_epoch, State.accept_log]
  case deny =>
    have given := (denyHold_given i x (s.accept .station)).from_alike alike
    obtain ⟨t, taken, answers, after⟩ := heldCommand_answers (resolve := denyBody) new held .deny rfl rfl
      (frame_denyHold i x (s.accept .station)) (denyParts_apart i)
    have queueKept : t.holdQueue = _ := after .holdQueue (by decide)
    have statusKept : t.events.isSet .holdWaiting = _ := after (.status .holdWaiting) (by decide)
    have logKept : t.log = _ := after .log (by decide)
    rw [State.accept_generation] at given
    refine ⟨t, taken, answers, given.kept after ?_ ?_, ?_, ?_, ?_⟩
    · simp [answerReads]
    · simp
    · rw [queueKept, State.denyHold_holdQueue, State.accept_holdQueue]
    · rw [statusKept, State.denyHold_holdWaiting, State.accept_holdQueue]
    · rw [logKept, State.denyHold_log, State.accept_epoch, State.accept_log]

end Sys2Proof.Machine
end

section
/-! PROOFS. Requests refused at admission, and requests decided PASS and REFUSE. -/
namespace Sys2Proof.Machine

/-! ### The admission tests (R4) -/

section
variable {q : Request} {s : State}

theorem State.tagInUse_iff : s.tagInUse q.station q.tag = true ↔ TagHeld q s := by
  simp only [State.tagInUse, List.any_eq_true, TagHeld, entryIndices, List.mem_finRange, true_and]
  refine exists_congr fun i => ?_
  cases (s.entryState i).txn? <;> simp

theorem State.lowestFree_none (full : ∀ i, s.entryState i ≠ .free) : s.lowestFree = none := by
  rw [State.lowestFree, List.find?_eq_none]
  intro i _
  have := full i
  cases entry : s.entryState i <;> simp_all [EntryState.isFree]

theorem State.lowestFree_some {i : EntryIndex} (free : s.entryState i = .free)
    (lowest : ∀ j < i, s.entryState j ≠ .free) : s.lowestFree = some i := by
  rw [State.lowestFree, List.find?_eq_some_iff_getElem]
  refine ⟨by simp [free, EntryState.isFree], i.val, by simp [entryIndices], by simp [entryIndices], fun j below => ?_⟩
  have notFree := lowest ⟨j, Nat.lt_trans below i.isLt⟩ below
  simp only [entryIndices, List.getElem_finRange, Fin.cast_mk]
  cases entry : s.entryState ⟨j, Nat.lt_trans below i.isLt⟩ <;> simp_all [EntryState.isFree]

theorem RefusedFor.admission {c : RefusalCause} (refused : RefusedFor q s c) : s.admission q = .error c := by
  cases c
  case badTarget => exact if_pos refused
  case tagInUse =>
    obtain ⟨notOwn, held⟩ := refused
    simp only [State.admission, if_neg notOwn, State.tagInUse_iff.2 held, if_true]
  case tableFull =>
    obtain ⟨notOwn, fresh, full⟩ := refused
    have unused : ¬ s.tagInUse q.station q.tag = true := fun used => fresh (State.tagInUse_iff.1 used)
    simp only [State.admission, if_neg notOwn, if_neg unused, State.lowestFree_none full]
  all_goals exact absurd refused id

theorem Admitted.admission {i : EntryIndex} (admitted : Admitted q i s) : s.admission q = .ok i := by
  have unused : ¬ s.tagInUse q.station q.tag = true := fun used => admitted.tagFree (State.tagInUse_iff.1 used)
  simp only [State.admission, if_neg admitted.notOwn, if_neg unused,
    State.lowestFree_some admitted.free admitted.lowest]

theorem State.accept_admission (p : PortName) : (s.accept p).admission q = s.admission q := by
  simp [State.admission, State.tagInUse, State.lowestFree]

/-- A request that reaches the part is received on the state that has accepted its frame (R171). -/
theorem exec_requestArrival (reaches : FrameReaches .station s) (stamp : Stamp) :
    exec (.requestArrival q stamp) s = .next ((s.accept .station).receiveRequest q stamp).settle := by
  show execRequestArrival q stamp s = _
  rw [execRequestArrival, acceptedAt_reaches reaches]

end

/-! ### A refusal made at admission (R5) -/

section
variable (q : Request) (c : RefusalCause) (s : State)

/-- A refusal is counted, queued and flagged, before its record is written. -/
def State.noteRefusal : State :=
  State.flagFullTable c (State.queueRefusal ⟨q.station, q.tag, c⟩ (s.bump (.refusals c)))

/-- What noting a refusal may change. -/
def noteRefusalParts : List Part :=
  [.counter (.refusals c), .refusals, .counter .refusalsDropped]
    ++ (if c = .tableFull then statusParts .admissionFull else [])

theorem frame_queueRefusal (r : AdmissionRefusal) :
    SameBut [.refusals, .counter .refusalsDropped] s (s.queueRefusal r) := by
  unfold State.queueRefusal
  split
  · intro p hp; cases p <;> simp_all [Part.Kept, State.count]
    case link p => cases p <;> rfl
  · exact (frame_bumpBy 1 .refusalsDropped s).mono (by simp)

theorem frame_flagFullTable :
    SameBut (if c = .tableFull then statusParts .admissionFull else []) s (s.flagFullTable c) := by
  unfold State.flagFullTable
  split
  · exact frame_setStatus .admissionFull s
  · exact SameBut.refl _ s

theorem frame_noteRefusal : SameBut (noteRefusalParts c) s (s.noteRefusal q c) :=
  (((frame_bumpBy 1 (.refusals c) s).trans (frame_queueRefusal _ _)).trans (frame_flagFullTable c _)).mono (by
    simp [noteRefusalParts])

theorem noteRefusal_apart {p : Part} (apart : p ∉ [.counter (.refusals c), .refusals, .counter .refusalsDropped]
    ++ statusParts .admissionFull) : p ∉ noteRefusalParts c := by
  unfold noteRefusalParts
  split <;> simp_all

theorem State.noteRefusal_tableInForce : (s.noteRefusal q c).tableInForce = s.tableInForce := by
  have mode : (s.noteRefusal q c).control.mode = s.control.mode :=
    frame_noteRefusal q c s .mode (noteRefusal_apart c (by simp [statusParts, noticeParts]))
  have commit : (s.noteRefusal q c).commit = s.commit :=
    frame_noteRefusal q c s .commit (noteRefusal_apart c (by simp [statusParts, noticeParts]))
  simp only [State.tableInForce, mode, commit]

theorem State.noteRefusal_log : (s.noteRefusal q c).log = s.log :=
  frame_noteRefusal q c s .log (noteRefusal_apart c (by simp [statusParts, noticeParts]))

theorem State.noteRefusal_epoch : (s.noteRefusal q c).epoch = s.epoch :=
  frame_noteRefusal q c s .epoch (noteRefusal_apart c (by simp [statusParts, noticeParts]))

theorem State.flagFullTable_sPort_refusals : (s.flagFullTable c).sPort.refusals = s.sPort.refusals := by
  unfold State.flagFullTable
  split <;> simp

theorem State.flagFullTable_count (k : Counter) : (s.flagFullTable c).count k = s.count k := by
  unfold State.flagFullTable
  split <;> simp

theorem State.noteRefusal_counted : (s.noteRefusal q c).count (.refusals c) = s.count (.refusals c) + 1 := by
  simp only [State.noteRefusal, State.flagFullTable_count, State.queueRefusal]
  split
  · exact (State.bumpBy_count _ _ _ _).trans (by simp)
  · simp

theorem State.noteRefusal_queued (room : s.sPort.refusals.length < 4) :
    (s.noteRefusal q c).sPort.refusals = s.sPort.refusals ++ [⟨q.station, q.tag, c⟩]
      ∧ (s.noteRefusal q c).count .refusalsDropped = s.count .refusalsDropped := by
  have fits : (s.bump (.refusals c)).sPort.refusals.length < Config.refusalCapacity := by simpa using room
  simp only [State.noteRefusal, State.flagFullTable_sPort_refusals, State.flagFullTable_count, State.queueRefusal,
    if_pos fits]
  exact ⟨by simp, (State.bumpBy_count _ _ _ _).trans (by simp)⟩

theorem State.noteRefusal_dropped (full : 4 ≤ s.sPort.refusals.length) :
    (s.noteRefusal q c).sPort.refusals = s.sPort.refusals
      ∧ (s.noteRefusal q c).count .refusalsDropped = s.count .refusalsDropped + 1 := by
  have noRoom : ¬ (s.bump (.refusals c)).sPort.refusals.length < Config.refusalCapacity := by simpa using full
  simp only [State.noteRefusal, State.flagFullTable_sPort_refusals, State.flagFullTable_count, State.queueRefusal,
    if_neg noRoom]
  simp

theorem State.noteRefusal_flagged : (s.noteRefusal q .tableFull).events.isSet .admissionFull = true := by
  simp [State.noteRefusal, State.flagFullTable]

/-- The refusal's record is written last, when its setting is on (R5, R104). -/
theorem State.refuseAdmission_eq : s.refuseAdmission q c = if s.log.refusalLogging
    then (s.noteRefusal q c).logRecord (admissionRecord s q c) else s.noteRefusal q c := by
  have record : admissionRecord (s.noteRefusal q c) q c = admissionRecord s q c := by
    simp only [admissionRecord, State.noteRefusal_tableInForce]
  have last : s.refuseAdmission q c = if (s.noteRefusal q c).log.refusalLogging
    then (s.noteRefusal q c).logRecord (admissionRecord (s.noteRefusal q c) q c) else s.noteRefusal q c := rfl
  rw [last, record, State.noteRefusal_log]

theorem admissionRecords_eq :
    admissionRecords q c s = if s.log.refusalLogging then [admissionRecord s q c] else [] := by
  simp [admissionRecords, admissionRecord, State.tableInForce_eq, requestParties, requestAccess, snippetOf]

theorem State.refuseAdmission_log :
    (s.refuseAdmission q c).log = logAfterAll s.epoch s.log (admissionRecords q c s) := by
  rw [State.refuseAdmission_eq, admissionRecords_eq]
  split <;> simp [State.noteRefusal_log, State.noteRefusal_epoch]

/-- The record changes nothing of what noting the refusal wrote. -/
theorem frame_refusalRecord :
    SameBut (loggingParts (admissionRecords q c s)) (s.noteRefusal q c) (s.refuseAdmission q c) := by
  rw [State.refuseAdmission_eq, admissionRecords_eq]
  split
  · exact frame_logRecord _ _
  · exact SameBut.refl _ _

theorem admissionRecords_accept (p : PortName) : admissionRecords q c (s.accept p) = admissionRecords q c s := by
  simp [admissionRecords]

end

/-- Settles O12: the refusal is noted on the state that has accepted the frame, and its record touches nothing of that. -/
theorem refusedAtAdmission : Obligations.RefusedAtAdmission := by
  intro q stamp c s reaches refused
  have runs := exec_requestArrival (q := q) reaches stamp
  have received : (s.accept .station).receiveRequest q stamp = (s.accept .station).refuseAdmission q c := by
    simp only [State.receiveRequest, State.accept_admission, refused.admission]
  rw [received] at runs
  have noted := frame_noteRefusal q c (s.accept .station)
  have after := (frame_refusalRecord q c (s.accept .station)).trans (frame_settle _)
  rw [admissionRecords_accept, List.append_nil] at after
  have effect := noted.trans after
  have apart : ∀ {p : Part}, p ∉ recordParts → p ∉ loggingParts (admissionRecords q c s) := fun out logged =>
    out (mem_loggingParts.1 logged).2
  have queue := after .refusals (apart (by simp [recordParts, noticeParts]))
  have dropped := after (.counter .refusalsDropped) (apart (by simp [recordParts, noticeParts]))
  have counted := after (.counter (.refusals c)) (apart (by simp [recordParts, noticeParts]))
  have flagged := after (.status .admissionFull) (apart (by simp [recordParts, noticeParts]))
  simp only [Part.Kept] at queue dropped counted flagged
  refine ⟨_, runs, FrameTaken.of_effect effect ?_ ?_, ?_, ?_, ?_, ?_, ?_, ?_⟩
  · simp only [List.mem_append, not_or]
    exact ⟨noteRefusal_apart c (by simp [statusParts, noticeParts]), apart (by simp [recordParts, noticeParts])⟩
  · simp only [List.mem_append, not_or]
    exact ⟨noteRefusal_apart c (by simp [statusParts, noticeParts]), apart (by simp [recordParts, noticeParts])⟩
  · rw [counted, State.noteRefusal_counted]; simp
  · intro room
    obtain ⟨joined, same⟩ := State.noteRefusal_queued q c (s.accept .station) (by simpa using room)
    rw [queue, dropped, joined, same]; simp
  · intro full
    obtain ⟨same, more⟩ := State.noteRefusal_dropped q c (s.accept .station) (by simpa using full)
    rw [queue, dropped, same, more]; simp
  · rintro rfl
    rw [flagged, State.noteRefusal_flagged]
  · rw [State.settle_log, State.refuseAdmission_log, admissionRecords_accept, State.accept_epoch, State.accept_log]
  · exact ((frame_accept .station s).trans effect).mono (by simp only [noteRefusalParts, List.mem_append]; grind)

end Sys2Proof.Machine
end

section
/-! PROOFS. Requests decided PASS and REFUSE (R6, R32). -/
namespace Sys2Proof.Machine

/-! ### The entry an admitted request is given (R6) -/

/-- An entry is allocated under its next generation and the request counted. -/
def State.openEntry (i : EntryIndex) (s : State) : State :=
  State.bump .requestsAdmitted (s.setEntry i ⟨s.generation i + 1, .free⟩)

section
variable (i : EntryIndex) (s : State)

theorem frame_openEntry : SameBut [.counter .requestsAdmitted, .entry i] s (s.openEntry i) :=
  ((frame_setEntry i _ s).trans (frame_bumpBy 1 .requestsAdmitted _)).mono (by simp)

theorem answersAlike_openEntry : AnswersAlike s (s.openEntry i) :=
  .of_frame (frame_openEntry i s) (by simp [answerReads]) (by simp)

@[simp] theorem State.openEntry_generation : (s.openEntry i).generation i = s.generation i + 1 := by
  simp [State.openEntry]

@[simp] theorem State.openEntry_count : (s.openEntry i).count .requestsAdmitted = s.count .requestsAdmitted + 1 := by
  simp [State.openEntry]

@[simp] theorem State.openEntry_epoch : (s.openEntry i).epoch = s.epoch := by simp [State.openEntry]

@[simp] theorem State.openEntry_log : (s.openEntry i).log = s.log := by simp [State.openEntry]

end

theorem State.accept_verdict (p : PortName) (s : State) (q : Request) (offset : Nat) :
    (s.accept p).verdict q offset = s.verdict q offset := by simp [State.verdict]

section
variable {q : Request} {i : EntryIndex} {s : State}

/-- An admitted request is decided on the state that has given it its entry (R6). -/
theorem exec_requestArrival_admitted (admitted : Admitted q i s) (stamp : Stamp) {x : Txn} {a : RuleAction}
    (action : (s.verdict q stamp.offset).action = a) (fields : txnOf q stamp (s.verdict q stamp.offset) = x) :
    exec (.requestArrival q stamp) s = .next (((s.accept .station).openEntry i).decideBy i x a).settle := by
  rw [exec_requestArrival admitted.reaches]
  simp only [State.receiveRequest, State.accept_admission, admitted.admission, State.allocate, State.accept_verdict,
    action, fields, State.openEntry]

end

/-! ### The decision with its record (R31, R32) -/

section
variable {q : Request} {i : EntryIndex} {s : State}

/-- The state on which a decision moves an admitted entry on: frame accepted, entry given, DECISION record written. -/
def State.recordDecision (i : EntryIndex) (x : Txn) (b : RecordBody) (s : State) : State :=
  ((s.accept .station).openEntry i).logDecision x b

variable (x : Txn) (b : RecordBody)

/-- The records of a decision (R31). -/
def levelRecords (x : Txn) (b : RecordBody) : List RecordBody := if x.logLevel = .none then [] else [b]

theorem frame_recordDecision (i : EntryIndex) (s : State) :
    SameBut ([.counter .requestsAdmitted, .entry i] ++ loggingParts (levelRecords x b)) (s.accept .station)
      (s.recordDecision i x b) :=
  (frame_openEntry i _).trans (frame_logDecision x b _)

theorem recordDecision_apart {p : Part} {records : List RecordBody}
    (apart : p ∉ [.counter .requestsAdmitted, .entry i] ++ recordParts) :
    p ∉ [.counter .requestsAdmitted, .entry i] ++ loggingParts records := by
  simp only [List.mem_append, mem_loggingParts] at apart ⊢
  grind

theorem answerReads_apart (i : EntryIndex) :
    ∀ p ∈ answerReads, p ∉ [.counter .requestsAdmitted, .entry i] ++ recordParts := by
  simp [answerReads, recordParts, noticeParts]

theorem answersAlike_recordDecision (i : EntryIndex) (reaches : FrameReaches .station s) :
    AnswersAlike s (s.recordDecision i x b) :=
  (answersAlike_accept reaches).trans (.of_frame (frame_recordDecision x b i s)
    (fun p reads => recordDecision_apart (answerReads_apart i p reads))
    (fun _ => recordDecision_apart (by simp [recordParts, noticeParts])))

@[simp] theorem State.recordDecision_generation (i : EntryIndex) (s : State) :
    (s.recordDecision i x b).generation i = s.generation i + 1 := by
  have kept : (s.recordDecision i x b).generation i = ((s.accept .station).openEntry i).generation i :=
    congrArg Entry.generation (frame_logDecision x b _ (.entry i) (by
      simp [mem_loggingParts, recordParts, noticeParts]))
  rw [kept, State.openEntry_generation, State.accept_generation]

@[simp] theorem State.recordDecision_epoch (i : EntryIndex) (s : State) : (s.recordDecision i x b).epoch = s.epoch := by
  have kept : (s.recordDecision i x b).epoch = (s.accept .station).epoch :=
    frame_recordDecision x b i s .epoch (recordDecision_apart (by simp [recordParts, noticeParts]))
  rw [kept, State.accept_epoch]

@[simp] theorem State.recordDecision_log (i : EntryIndex) (s : State) :
    (s.recordDecision i x b).log = logAfterAll s.epoch s.log (levelRecords x b) := by
  simp [State.recordDecision, levelRecords]

theorem State.recordDecision_admitted (i : EntryIndex) (s : State) :
    (s.recordDecision i x b).count .requestsAdmitted = s.count .requestsAdmitted + 1 := by
  simp [State.recordDecision]

end

/-! ### What follows the record -/

/-- A decision's move leaves the frame taken and the request counted, when it leaves these parts. -/
structure LeavesAdmission (moved : List Part) : Prop where
  link : Part.link .station ∉ moved
  accepted : Part.counter (.framesAccepted .station) ∉ moved
  admitted : Part.counter .requestsAdmitted ∉ moved

section
variable {i : EntryIndex} {s t : State} {x : Txn} {b : RecordBody} {moved : List Part}

theorem frameTaken_decided (after : SameBut moved (s.recordDecision i x b) t) (leaves : LeavesAdmission moved) :
    FrameTaken .station s t := by
  refine FrameTaken.of_effect ((frame_recordDecision x b i s).trans after)
    (List.not_mem_append (recordDecision_apart ?_) leaves.link)
    (List.not_mem_append (recordDecision_apart ?_) leaves.accepted) <;> simp [recordParts, noticeParts]

theorem admitted_decided (after : SameBut moved (s.recordDecision i x b) t) (leaves : LeavesAdmission moved) :
    t.count .requestsAdmitted = s.count .requestsAdmitted + 1 :=
  (after _ leaves.admitted).trans (State.recordDecision_admitted x b i s)

end

/-- Settles O13: a decision of PASS is its record and the forward step. -/
theorem requestDecidedPass : Obligations.RequestDecidedPass := by
  intro q stamp i s admitted v x records action
  have reaches := admitted.reaches
  have fields : txnOf q stamp v = x := by simp only [txnOf, action, RuleAction.decision, x]
  have runs := exec_requestArrival_admitted admitted stamp action fields
  clear_value x
  have alike := answersAlike_recordDecision x (decisionRecord x .pass none none) i reaches
  have forwarded := forward_forwarded i x (s.recordDecision i x (decisionRecord x .pass none none))
  have after := (frame_forward i x (s.recordDecision i x (decisionRecord x .pass none none))).trans (frame_settle _)
  rw [State.recordDecision_generation] at forwarded
  rw [alike.forwardParts, alike.forwardRecords, List.append_nil] at after
  have leaves : LeavesAdmission (forwardParts i s ++ loggingParts (forwardRecords x s)) := by
    constructor <;> unfold forwardParts answerParts <;> split <;> simp [mem_loggingParts, recordParts, noticeParts]
  refine ⟨_, runs, frameTaken_decided after leaves, admitted_decided after leaves, (forwarded.from_alike alike).settle,
    ?_, ?_⟩
  · rw [State.settle_log]
    show (State.forward i x (s.recordDecision i x (decisionRecord x .pass none none))).log = _
    rw [State.forward_log, alike.forwardRecords, State.recordDecision_log, State.recordDecision_epoch,
      ← logAfterAll_append]
    rfl
  · refine (((frame_accept .station s).trans (frame_recordDecision x _ i s)).trans after).mono ?_
    have entry : Part.entry i ∈ forwardParts i s := by unfold forwardParts answerParts; split <;> simp
    simp only [admissionParts, records, mem_loggingParts_append, List.mem_append]
    grind [decisionRecords, levelRecords]

/-- The refusal RULE has no completion record (R20). -/
theorem completionRecords_rule (x : Txn) : completionRecords x (.refusal .rule) = [] := by
  simp [completionRecords, completionRecord]

/-- Settles O14: a decision of REFUSE is its record and the answer RULE. -/
theorem requestDecidedRefuse : Obligations.RequestDecidedRefuse := by
  intro q stamp i s admitted v x records action
  have reaches := admitted.reaches
  have fields : txnOf q stamp v = x := by simp only [txnOf, action, RuleAction.decision, x]
  have runs := exec_requestArrival_admitted admitted stamp action fields
  clear_value x
  have alike := answersAlike_recordDecision x (decisionRecord x .refuse none (some .rule)) i reaches
  have given := becomeReturning_given i x (.refusal .rule)
    (s.recordDecision i x (decisionRecord x .refuse none (some .rule)))
  have after := (frame_becomeReturning i x (.refusal .rule)
    (s.recordDecision i x (decisionRecord x .refuse none (some .rule)))).trans (frame_settle _)
  rw [State.recordDecision_generation] at given
  rw [completionRecords_rule, loggingParts_nil, List.append_nil, List.append_nil] at after
  have leaves : LeavesAdmission (answerParts i (.refusal .rule)) := by constructor <;> simp [answerParts]
  refine ⟨_, runs, frameTaken_decided after leaves, admitted_decided after leaves, (given.from_alike alike).settle,
    ?_, ?_⟩
  · rw [State.settle_log]
    show (State.becomeReturning i x (.refusal .rule) (s.recordDecision i x _)).log = _
    rw [State.becomeReturning_log, completionRecords_rule, logAfterAll_nil, State.recordDecision_log]
    rfl
  · refine (((frame_accept .station s).trans (frame_recordDecision x _ i s)).trans after).mono ?_
    have entry : Part.entry i ∈ answerParts i (.refusal .rule) := by simp [answerParts]
    simp only [admissionParts, records, List.mem_append]
    grind [decisionRecords, levelRecords]

end Sys2Proof.Machine
end

section
/-! PROOFS. The steps of a part: its front command, an expiry or a microsecond; and a part held in reset. -/
namespace Sys2Proof.Machine

/-- Settles O1: the step is defined so. -/
theorem stepRunsFrontCommand : Obligations.StepRunsFrontCommand := fun _ _ _ => rfl

/-! ### Every command is an event, but for the two of the reset line -/

/-- A command reaches the part as an event does: a state change that a part held in reset does not make (R21). -/
def IsEvent (outcome : Host.Outcome State Fault Refusal) (s : State) : Prop := ∃ effect, outcome = taken effect s

section
variable (s : State)

theorem isEvent_agent (effect : State → State) : IsEvent (agent effect s) s := ⟨_, rfl⟩

theorem isEvent_row (c : CommandName) (h : CommandHeader) (args : List Byte) : IsEvent (exec (c.row h args) s) s := by
  obtain ⟨effect, runs, -⟩ := exec_row_agent c h args
  rw [runs]
  exact isEvent_agent s effect

theorem isEvent_commandFrame (code : Byte) (h : CommandHeader) (args : List Byte) :
    IsEvent (execCommandFrame code h args s) s := by
  rw [execCommandFrame_eq, commandRow]
  split
  · exact isEvent_row s _ h args
  · exact isEvent_agent s _

theorem isEvent_otherSymbol (p : PortName) (symbol : LineSymbol) : IsEvent (execOtherSymbol p symbol s) s := by
  unfold execOtherSymbol
  split
  case h_2 => exact ⟨_, rfl⟩
  case h_1 =>
    unfold execFrame
    split
    case h_1 => exact ⟨_, rfl⟩
    case h_2 => exact ⟨_, rfl⟩
    case h_3 => exact ⟨_, rfl⟩
    case h_4 => exact isEvent_commandFrame s _ _ _

theorem isEvent_exec (c : Instr) (notAsserted : c ≠ .rstNAsserted)
    (notPowerOn : ∀ straps start, c ≠ .powerOnReset straps start) : IsEvent (exec c s) s := by
  rcases Instr.cases_row c with ⟨name, h, args, rfl⟩ | ⟨code, h, args, rfl⟩ | noFrame
  · exact isEvent_row s name h args
  · exact isEvent_agent s _
  · cases c
    case rstNAsserted => exact absurd rfl notAsserted
    case powerOnReset straps start => exact absurd rfl (notPowerOn straps start)
    case otherSymbol p symbol => exact isEvent_otherSymbol s p symbol
    case signalDetected | validIdleSymbol | lossOfSignal | frameRejected | requestArrival | responseArrival
      | responseDeadlineExpiry | nodeTransmitComplete | sPortTransmitComplete | holdDeadlineExpiry | epochBoundary
      | livenessExpiry | noticeRetryExpiry => exact ⟨_, rfl⟩
    case syncInEdge transition =>
      cases transition with
      | lowToHigh => exact ⟨State.syncEdge, rfl⟩
      | highToLow => exact ⟨id, rfl⟩
    all_goals cases noFrame

end

/-! ### Every command completes (O3) -/

theorem exec_completes (c : Instr) (s : State) : ∃ t, exec c s = .next t := by
  by_cases asserted : c = .rstNAsserted
  · subst asserted; exact ⟨_, rfl⟩
  by_cases powerOn : ∃ straps start, c = .powerOnReset straps start
  · obtain ⟨straps, start, rfl⟩ := powerOn; exact ⟨_, rfl⟩
  obtain ⟨effect, runs⟩ := isEvent_exec s c asserted fun straps start same => powerOn ⟨straps, start, same⟩
  exact ⟨_, runs⟩

/-- An event without an effect leaves the transmitters to settle. -/
theorem taken_unchanged {s : State} (running : s.heldInReset = false) {effect : State → State} (same : effect s = s) :
    ∃ t, taken effect s = .next t ∧ SameBut [] s t :=
  ⟨_, taken_running running effect, by rw [same]; exact frame_settle s⟩

/-- Settles O3: every command is an event or one of the two of the reset line, and an expiry without its deadline finds
nothing to act on. -/
theorem everyCommandCompletes : Obligations.EveryCommandCompletes := by
  refine ⟨exec_completes, fun i s running => ⟨fun notHeld => ?hold, fun notInFlight => ?response, fun disarmed => ?liveness,
    fun idle => ?retry⟩⟩
  case hold =>
    refine taken_unchanged running (effect := State.expireHold i) ?_
    cases entry : s.entryState i with
    | held x hold => exact absurd entry (notHeld x hold)
    | free | queued | inFlight | returning => simp only [State.expireHold, entry]
  case response =>
    refine taken_unchanged running (effect := State.expireResponse i) ?_
    cases entry : s.entryState i with
    | inFlight x d => exact absurd entry (notInFlight x d)
    | free | held | queued | returning => simp only [State.expireResponse, entry]
  case liveness =>
    exact taken_unchanged running (effect := State.expireLiveness) (by simp only [State.expireLiveness, disarmed])
  case retry =>
    exact taken_unchanged running (effect := State.expireRetry) (by simp only [State.expireRetry, idle])

/-! ### The part held in reset (R21) -/

/-- A part held in reset keeps its state over every event. -/
theorem exec_held {c : Instr} {s : State} (held : s.heldInReset = true) (notAsserted : c ≠ .rstNAsserted)
    (notPowerOn : ∀ straps start, c ≠ .powerOnReset straps start) : exec c s = .next s := by
  obtain ⟨effect, runs⟩ := isEvent_exec s c notAsserted notPowerOn
  rw [runs, taken_held held]

/-- The part with RST_N low (R21). -/
def State.holdInReset (s : State) : State :=
  { s with
    heldInReset := true
    sPort := { s.sPort with sending := none }
    nPort := { s.nPort with busy := false } }

theorem exec_rstNAsserted (s : State) : exec .rstNAsserted s = .next s.holdInReset := rfl

theorem frame_holdInReset (s : State) :
    SameBut [.heldInReset, .stationTransmission, .nodeTransmission] s s.holdInReset := by
  intro p hp; cases p <;> simp_all [Part.Kept, State.holdInReset, State.count]
  case link p => cases p <;> rfl

/-- Settles O6: RST_N low acts at once, and no event acts after it. -/
theorem heldInReset : Obligations.HeldInReset := by
  refine ⟨fun s => ⟨_, exec_rstNAsserted s, rfl, ?_, rfl, rfl, frame_holdInReset s⟩, fun c s held => exec_held held⟩
  simp [State.alert, State.holdInReset]

/-! ### An idle step (log 1, log 2) -/

theorem step_idle {s : State} (idle : s.pending = []) : step s = idleStep s := by simp only [step, idle]

/-- With an expiry due, an idle step takes one of those due. -/
theorem idleStep_due {s : State} (running : s.heldInReset = false) (due : ∃ c, Due s c) :
    ∃ c, Due s c ∧ idleStep s = exec c { s with choices := s.choices + 1 } := by
  obtain ⟨c, due⟩ := due
  cases chosen : chooseExpiry s.choices s.dueExpiries with
  | some c =>
    exact ⟨c, (State.mem_dueExpiries running).1 (chooseExpiry_mem chosen), by simp only [idleStep, chosen]⟩
  | none =>
    have none : s.dueExpiries = [] := chooseExpiry_eq_none.1 chosen
    have listed := (State.mem_dueExpiries running).2 due
    simp [none] at listed

/-- With no expiry due, an idle step is a microsecond. -/
theorem idleStep_tick {s : State} (none : s.dueExpiries = []) : idleStep s = taken State.tick s := by
  simp only [idleStep, chooseExpiry_eq_none.2 none, execTick]

theorem State.dueExpiries_empty {s : State} (running : s.heldInReset = false) (notDue : ¬ ∃ c, Due s c) :
    s.dueExpiries = [] :=
  List.eq_nil_iff_forall_not_mem.2 fun c listed => notDue ⟨c, (State.mem_dueExpiries running).1 listed⟩

/-- The time and the offset move on by a microsecond. -/
def State.advance (s : State) : State :=
  { s with now := s.now + 1, epoch := { s.epoch with offset := s.epoch.offset + 1 } }

theorem frame_advance (s : State) : SameBut [.now, .epoch] s s.advance := by
  intro p hp; cases p <;> simp_all [Part.Kept, State.advance, State.count]
  case link p => cases p <;> rfl

theorem State.tick_within {s : State} (within : s.epoch.offset + 1 < s.epochLength) : s.tick = s.advance :=
  if_pos within

theorem State.tick_reaches {s : State} (reaches : s.epochLength ≤ s.epoch.offset + 1) :
    s.tick = State.takeBoundary { s with now := s.now + 1 } := if_neg (Nat.not_lt.2 reaches)

/-- Settles O2: an expiry chosen is one that is due, and a microsecond is taken only with none due. -/
theorem idleStepTakesExpiryOrTick : Obligations.IdleStepTakesExpiryOrTick := by
  intro s idle
  rw [step_idle idle]
  refine ⟨fun held => ?held, fun running => idleStep_due running, fun running notDue within => ?within,
    fun running notDue reaches => ?reaches⟩
  case held =>
    have none : s.dueExpiries = [] := by simp only [State.dueExpiries, held, if_true]
    rw [idleStep_tick none, taken_held held]
  case within =>
    rw [idleStep_tick (State.dueExpiries_empty running notDue), taken_running running, State.tick_within within]
    exact ⟨_, rfl, rfl, rfl, (frame_advance s).trans (frame_settle _)⟩
  case reaches =>
    have boundary : exec .epochBoundary { s with now := s.now + 1 }
        = .next (State.takeBoundary { s with now := s.now + 1 }).settle := exec_epochBoundary running
    rw [idleStep_tick (State.dueExpiries_empty running notDue), taken_running running, State.tick_reaches reaches,
      boundary]

/-! ### A boundary (R66, R87) -/

/-- The bank takes force with everything that its boundary changes, but for its notes and the commit's end. -/
theorem frame_enforceShadow (s : State) : SameBut (boundaryParts ++ [.active, .commit]) s s.enforceShadow := by
  intro p unlisted
  have apart : p ∉ boundaryParts := fun listed => unlisted (by simp [listed])
  cases p
  case epoch => exact absurd (mem_boundaryParts.2 (.inl rfl)) apart
  case meter m => exact absurd (mem_boundaryParts.2 (.inr ⟨m, rfl⟩)) apart
  case link p => cases p <;> rfl
  all_goals simp_all [Part.Kept, State.enforceShadow, State.count]

theorem State.enforceShadow_count (s : State) (c : Counter) : s.enforceShadow.count c = s.count c := rfl

theorem enforceShadow_plainBoundary (s : State) : PlainBoundary s s.enforceShadow :=
  ⟨rfl, fun m => by simp [State.enforceShadow, clearConsumed]⟩

/-- A boundary stays as it was over what changes neither the Epoch Timer nor a meter. -/
theorem PlainBoundary.kept {s t u : State} {changed : List Part} (h : PlainBoundary s t) (after : SameBut changed t u)
    (apart : ∀ p ∈ boundaryParts, p ∉ changed) : PlainBoundary s u :=
  ⟨(after .epoch (apart _ (mem_boundaryParts.2 (.inl rfl)))).trans h.epoch,
    fun m => (after (.meter m) (apart _ (mem_boundaryParts.2 (.inr ⟨m, rfl⟩)))).trans (h.meters m)⟩

/-- A commit in force is counted, reported and recorded, and ends (R87 steps 4 to 7). -/
def State.noteCommit (record : RecordBody) (g : Half) (s : State) : State :=
  (((s.bump .commitsApplied).setStatus .commitApplied).logRecord record).setCommit ⟨.idle, g⟩

/-- What noting a commit changes. -/
def noteCommitParts : List Part :=
  [.commit, .counter .commitsApplied] ++ statusParts .commitApplied ++ recordParts

theorem frame_noteCommit (record : RecordBody) (g : Half) (s : State) :
    SameBut noteCommitParts s (s.noteCommit record g) :=
  ((((frame_bumpBy 1 .commitsApplied s).trans (frame_setStatus .commitApplied _)).trans
    (frame_logRecord record _)).trans (frame_setCommit ⟨.idle, g⟩ _)).mono (by
      simp only [noteCommitParts, List.mem_append]; grind)

/-- Settles O29: with a commit pending, the boundary puts the shadow bank in force, then counts, reports and records the
commit and ends it. -/
theorem boundaryAppliesPendingCommit : Obligations.BoundaryAppliesPendingCommit := by
  intro s running
  refine ⟨fun idle => ?plain, fun pending => ?applies⟩
  case plain =>
    exact ⟨_, exec_epochBoundary running, (plainBoundary_takeBoundary idle).kept (frame_settle _) (by simp),
      (frame_takeBoundary idle).trans (frame_settle _)⟩
  case applies =>
    intro g record
    have boundary : s.takeBoundary = s.enforceShadow.noteCommit record g := State.takeBoundary_pending pending
    have noted := (frame_noteCommit record g s.enforceShadow).trans (frame_settle _)
    refine ⟨_, exec_epochBoundary running, ?_⟩
    rw [boundary]
    refine ⟨(enforceShadow_plainBoundary s).kept noted (by decide), noted .active (by decide), rfl, ?_, ?_, ?_, ?_⟩
    · rw [State.settle_count]
      show (State.logRecord record _).count .commitsApplied = _
      simp [State.enforceShadow_count]
    · rw [State.settle_events]
      show (State.logRecord record _).events.isSet .commitApplied = true
      simp
    · have epoch := noted .epoch (by decide)
      simp only [Part.Kept] at epoch
      rw [epoch, State.settle_log]
      show (State.logRecord record _).log = _
      simp [State.enforceShadow]
    · refine ((frame_enforceShadow s).trans noted).mono ?_
      simp only [noteCommitParts, List.mem_append]
      grind

end Sys2Proof.Machine
end

section
/-! PROOFS. The link of a port, and the frame under reception on it. -/
namespace Sys2Proof.Machine

section
variable {p : PortName} {s : State} (running : s.heldInReset = false)
include running

/-! ### The link state machine (R168, R169) -/

/-- A change of the link state, with LINK_CHANGE set. -/
theorem taken_changeLink {effect : State → State} {l : Link} (changes : effect s = s.changeLink p l) :
    ∃ t, taken effect s = .next t ∧ t.link p = l ∧ t.events.isSet .linkChange = true
      ∧ SameBut (.link p :: statusParts .linkChange) s t := by
  refine ⟨_, taken_running running effect, ?_⟩
  rw [changes, State.changeLink]
  exact ⟨by simp, by simp, ((frame_setLink p l s).trans (frame_setStatus .linkChange _)).trans (frame_settle _)⟩

/-- A change of what is known of the line, which is no change of state for the Event Unit. -/
theorem taken_setLink {effect : State → State} {l : Link} (changes : effect s = s.setLink p l) :
    ∃ t, taken effect s = .next t ∧ t.link p = l ∧ SameBut [.link p] s t := by
  refine ⟨_, taken_running running effect, ?_⟩
  rw [changes]
  exact ⟨by simp, (frame_setLink p l s).trans (frame_settle _)⟩

end

/-- A symbol that does not complete a frame is taken by itself (R170). -/
theorem exec_otherSymbol {p : PortName} {s : State} {symbol : LineSymbol}
    (completes : ∀ r, s.link p = .up (some r) → symbol ≠ .endDelimiter) :
    exec (.otherSymbol p symbol) s = taken (State.takeSymbol p symbol) s := by
  show execOtherSymbol p symbol s = _
  unfold execOtherSymbol
  split
  case h_1 r framed => exact absurd rfl (completes r framed)
  case h_2 => rfl

/-- Settles O7, by the link state and the report. -/
theorem linkReports : Obligations.LinkReports := by
  intro p s running
  refine ⟨fun down => ⟨?_, ?_, fun x => ?_, ?_⟩,
    fun run syncing => ⟨?_, fun below => ?_, fun reached => ?_, fun x => ?_, ?_⟩,
    fun r up => ?_⟩
  · exact taken_changeLink running (effect := State.detectSignal p) (by simp only [State.detectSignal, down])
  · exact taken_unchanged running (effect := State.takeIdle p) (by simp only [State.takeIdle, down])
  · rw [exec_otherSymbol (by simp [down])]
    exact taken_unchanged running (by simp only [State.takeSymbol, down])
  · exact taken_unchanged running (effect := State.loseSignal p) (by simp only [State.loseSignal, down])
  · exact taken_unchanged running (effect := State.detectSignal p) (by simp only [State.detectSignal, syncing])
  · exact taken_setLink running (effect := State.takeIdle p) (by
      simp only [State.takeIdle, syncing, Config.idleRunForUp, if_pos below])
  · exact taken_changeLink running (effect := State.takeIdle p) (by
      simp only [State.takeIdle, syncing, Config.idleRunForUp, if_neg (Nat.not_lt.2 reached)])
  · rw [exec_otherSymbol (by simp [syncing])]
    exact taken_setLink running (by simp only [State.takeSymbol, syncing])
  · exact taken_changeLink running (effect := State.loseSignal p) (by simp only [State.loseSignal, syncing])
  · exact taken_unchanged running (effect := State.detectSignal p) (by simp only [State.detectSignal, up])

/-! ### The frame under reception (R68, R170) -/

section
variable {p : PortName} {s : State} (running : s.heldInReset = false)
include running

/-- A frame cut is counted malformed, and what the symbol begins in its place is under reception (R170). -/
theorem taken_cutFrame {effect : State → State} {l : Link} (cuts : effect s = (s.cutFrame p).setLink p l) :
    ∃ t, taken effect s = .next t ∧ t.count (.malformed p) = s.count (.malformed p) + 1 ∧ t.link p = l
      ∧ SameBut [.link p, .counter (.malformed p)] s t := by
  refine ⟨_, taken_running running effect, ?_⟩
  rw [cuts]
  refine ⟨by simp [State.cutFrame], by simp, ?_⟩
  refine ((((frame_bumpBy 1 (.malformed p) s).trans (frame_setLink p (.up none) _)).trans
    (frame_setLink p l _)).trans (frame_settle _)).mono ?_
  simp

end

theorem cutFrame_setLink (p : PortName) (s : State) : (s.cutFrame p).setLink p (.up none) = s.cutFrame p := by
  cases p <;> rfl

theorem State.takeSymbol_framed {p : PortName} {s : State} {r : Reception} (framed : s.link p = .up (some r))
    (symbol : LineSymbol) : s.takeSymbol p symbol = s.symbolInFrame p r symbol := by
  simp only [State.takeSymbol, framed]

/-- Settles O8, by whether a frame is under reception, and the symbol. -/
theorem symbolsOfAFrame : Obligations.SymbolsOfAFrame := by
  intro p s running
  refine ⟨fun unframed => ⟨?begins, ?idle, fun x other => ?ignored⟩,
    fun r framed => ⟨fun b room => ?joins, fun c cuts => ?cut⟩⟩
  case begins =>
    rw [exec_otherSymbol (by simp [unframed])]
    exact taken_setLink running (by
      simp only [State.takeSymbol, unframed, State.symbolOutsideFrame, State.beginFrame])
  case idle => exact taken_unchanged running (effect := State.takeIdle p) (by simp only [State.takeIdle, unframed])
  case ignored =>
    rw [exec_otherSymbol (by simp [unframed])]
    refine taken_unchanged running ?_
    cases x with
    | startDelimiter => exact absurd rfl other
    | byte | endDelimiter | invalid => simp only [State.takeSymbol, unframed, State.symbolOutsideFrame]
  case joins =>
    rw [exec_otherSymbol (by simp)]
    exact taken_setLink running (by
      simp only [State.takeSymbol_framed framed, State.symbolInFrame, State.receiveByte, Config.frameBytes, if_pos room])
  case cut =>
    rcases cuts with rfl | rfl | rfl | ⟨b, rfl, full⟩
    · rw [if_neg (by simp)]
      refine taken_cutFrame running (effect := State.takeIdle p) ?_
      simp only [State.takeIdle, framed, cutFrame_setLink]
    · rw [if_neg (by simp), exec_otherSymbol (by simp)]
      refine taken_cutFrame running ?_
      simp only [State.takeSymbol_framed framed, State.symbolInFrame, cutFrame_setLink]
    · rw [if_pos rfl, exec_otherSymbol (by simp)]
      refine taken_cutFrame running ?_
      rw [State.takeSymbol_framed framed]
      cases p <;> rfl
    · rw [if_neg (by simp), exec_otherSymbol (by simp)]
      refine taken_cutFrame running ?_
      simp only [State.takeSymbol_framed framed, State.symbolInFrame, State.receiveByte, Config.frameBytes,
        if_neg (Nat.not_lt.2 full), cutFrame_setLink]

/-! ### A rejected frame (R170) -/

/-- Settles O10: on an UP port the reception ends and the check's counter moves. -/
theorem rejectedFrameIsCounted : Obligations.RejectedFrameIsCounted := by
  intro p failed c s running failedBy
  have counter : checkCounter p failed = c := by
    rcases failedBy with ⟨rfl, rfl⟩ | ⟨rfl, rfl⟩ | ⟨rfl, rfl⟩ | ⟨rfl, rfl⟩ <;> rfl
  have runs : exec (.frameRejected p failed) s
      = .next (if (s.link p).isUp then (s.endReception p).bump c else s).settle := by
    rw [← counter]
    exact taken_running running _
  refine ⟨fun up => ⟨_, runs, ?_⟩, fun notUp => ⟨_, runs, ?_⟩⟩
  · rw [if_pos up]
    exact ⟨by simp, by simp, ((frame_setLink p (.up none) s).trans (frame_bumpBy 1 c _)).trans (frame_settle _)⟩
  · rw [notUp]
    exact frame_settle s

end Sys2Proof.Machine
end

section
/-! PROOFS. The Station Port: the frame under transmission and its completion, the loss of the link, and the management
reset that either of them performs. -/
namespace Sys2Proof.Machine

/-! ### The frames sent upstream (R186, R188) -/

theorem partByte_eq (r : Reply) (part : Nat) :
    partByte r part = BitVec.ofNat 8 (part % 4) + (if r.payload.length ≤ 67 * (part + 1) then 0x80 else 0) := by
  have last := r.parts_le_iff part
  by_cases ends : r.parts ≤ part + 1
  · rw [partByte, if_neg (Nat.not_lt.2 ends), if_pos (last.1 ends)]
  · rw [partByte, if_pos (Nat.not_le.1 ends), if_neg fun fits => ends (last.2 fits)]

theorem replyFrame_eq (own : Byte) (r : Reply) (part : Nat) : replyFrame own r part
    = frameBytes 0x04 r.destination own r.tag ([r.code] ++ bytesOf16 r.sequence
        ++ [r.result.code, BitVec.ofNat 8 (part % 4) + (if r.payload.length ≤ 67 * (part + 1) then 0x80 else 0)]
        ++ (r.payload.drop (67 * part)).take 67) := by
  rw [replyFrame, partByte_eq, bytesOf16_eq, Nat.mul_comm part Config.payloadRun]

theorem noticeFrame_eq (own : Byte) (n : Notice) : noticeFrame own n
    = frameBytes 0x05 n.destination own n.number ([n.number] ++ bytesOf16 (n.events.setWidth 16)
        ++ bigEndian 1 n.holds ++ bigEndian 2 n.fill ++ [n.mode.code, n.commit.code]) := by
  rw [noticeFrame, ← eventSetBytes_eq]; rfl

section
variable {s : State} (running : s.heldInReset = false)
include running

theorem State.sLine_frame {bytes : List Byte} (frame : s.stationFrame = some bytes) : s.sLine = .frame bytes := by
  simp only [State.sLine, State.lineOutput, running, frame, Bool.false_eq_true, if_false]

theorem exec_sPortTransmitComplete : exec .sPortTransmitComplete s = .next s.completeStation.settle :=
  taken_running running _

end

/-! ### The completions (R174) -/

section
variable {s : State} {r : Reply} {rest : List Reply} {part : Nat}

theorem State.completeStation_goesOn (sending : s.sPort.sending = some (.reply part))
    (replies : s.sPort.replies = r :: rest)
    (more : ¬ r.payload.length ≤ 67 * (part + 1)) : s.completeStation = s.setSending (some (.reply (part + 1))) := by
  have another : part + 1 < r.parts := Nat.not_le.1 fun ends => more ((r.parts_le_iff part).1 ends)
  simp only [State.completeStation, sending, State.completeReply, replies, if_pos another]

/-- The last part of a reply has been sent. -/
def State.replySent (rest : List Reply) (s : State) : State :=
  { s with sPort := { s.sPort with replies := rest, sending := none } }

theorem State.completeStation_last (sending : s.sPort.sending = some (.reply part))
    (replies : s.sPort.replies = r :: rest)
    (last : r.payload.length ≤ 67 * (part + 1)) : s.completeStation
      = if s.session.resetAwaited = true ∧ r.code = 0x05 ∧ r.result = .done then (s.replySent rest).managementReset
        else s.replySent rest := by
  have none : ¬ part + 1 < r.parts := Nat.not_lt.2 ((r.parts_le_iff part).2 last)
  have performed : (s.session.resetAwaited && r.isResetDone) = true
      ↔ s.session.resetAwaited = true ∧ r.code = 0x05 ∧ r.result = .done := by
    rw [Bool.and_eq_true, r.isResetDone_iff]
  simp only [State.completeStation, sending, State.completeReply, replies, if_neg none, State.replySent, performed]

theorem frame_setSending (x : Option Sending) (s : State) : SameBut [.stationTransmission] s (s.setSending x) := by
  intro p hp; cases p <;> simp_all [Part.Kept, State.setSending, State.count]
  case link p => cases p <;> rfl

theorem frame_replySent (rest : List Reply) (s : State) :
    SameBut [.replies, .stationTransmission] s (s.replySent rest) := by
  intro p hp; cases p <;> simp_all [Part.Kept, State.replySent, State.count]
  case link p => cases p <;> rfl

end

/-- The slot's NOTICE has been sent. -/
def State.noticeSent (s : State) : State := { s with sPort := { s.sPort with slot := none, sending := none } }

theorem frame_noticeSent (s : State) : SameBut [.slot, .stationTransmission] s s.noticeSent := by
  intro p hp; cases p <;> simp_all [Part.Kept, State.noticeSent, State.count]
  case link p => cases p <;> rfl

/-- A refusal made at admission has been sent. -/
def State.refusalSent (rest : List AdmissionRefusal) (s : State) : State :=
  { s with sPort := { s.sPort with refusals := rest, sending := none } }

theorem frame_refusalSent (rest : List AdmissionRefusal) (s : State) :
    SameBut [.refusals, .stationTransmission] s (s.refusalSent rest) := by
  intro p hp; cases p <;> simp_all [Part.Kept, State.refusalSent, State.count]
  case link p => cases p <;> rfl

/-- The head of the Return queue has been sent. -/
def State.answerSent (i : EntryIndex) (rest : List EntryIndex) (s : State) : State :=
  State.setEntry i ⟨s.generation i, .free⟩ { s with sPort := { s.sPort with returns := rest, sending := none } }

theorem frame_answerSent (i : EntryIndex) (rest : List EntryIndex) (s : State) :
    SameBut [.returns, .entry i, .stationTransmission] s (s.answerSent i rest) := by
  have dequeued : SameBut [.returns, .stationTransmission] s
      { s with sPort := { s.sPort with returns := rest, sending := none } } := by
    intro p hp; cases p <;> simp_all [Part.Kept, State.count]
    case link p => cases p <;> rfl
  exact (dequeued.trans (frame_setEntry i _ _)).mono (by simp)

/-- Settles O22, by the kind of frame under transmission. -/
theorem stationTransmissionCompletes : Obligations.StationTransmissionCompletes := by
  intro s running own
  refine ⟨fun part r rest sending replies => ⟨?replyFrame, fun more => ?goesOn, fun last notReset => ?replySent⟩,
    fun sending => ⟨fun n slot => ?noticeFrame, ?noticeSent⟩,
    fun i rest sending returns => ⟨fun x c returning => ?refusal, fun x status detail data returning => ?node, ?answerSent⟩,
    fun r rest sending refusals => ⟨?refusalFrame, ?refusalSent⟩⟩
  case replyFrame =>
    refine State.sLine_frame running ?_
    simp only [State.stationFrame, sending, replies, List.head?_cons, Option.map_some, replyFrame_eq]
    rfl
  case goesOn =>
    refine ⟨_, exec_sPortTransmitComplete running, ?_⟩
    rw [State.completeStation_goesOn sending replies more]
    exact ⟨rfl, (frame_setSending _ s).trans (frame_settle _)⟩
  case replySent =>
    refine ⟨_, exec_sPortTransmitComplete running, ?_⟩
    rw [State.completeStation_last sending replies last, if_neg notReset]
    exact ⟨rfl, (frame_replySent rest s).trans (frame_settle _)⟩
  case noticeFrame =>
    refine State.sLine_frame running ?_
    simp only [State.stationFrame, sending, slot, Option.map_some, noticeFrame_eq]
    rfl
  case noticeSent =>
    have completes : s.completeStation = s.noticeSent := by simp only [State.completeStation, sending, State.noticeSent]
    refine ⟨_, exec_sPortTransmitComplete running, ?_⟩
    rw [completes]
    exact ⟨rfl, (frame_noticeSent s).trans (frame_settle _)⟩
  case refusal =>
    refine State.sLine_frame running ?_
    simp only [State.stationFrame, sending, returns, List.head?_cons, Option.bind_some, State.entryAnswerFrame, returning]
    rfl
  case node =>
    refine State.sLine_frame running ?_
    simp only [State.stationFrame, sending, returns, List.head?_cons, Option.bind_some, State.entryAnswerFrame, returning]
    rfl
  case answerSent =>
    have completes : s.completeStation = s.answerSent i rest := by
      simp only [State.completeStation, State.completeAnswer, sending, returns]; rfl
    refine ⟨_, exec_sPortTransmitComplete running, ?_⟩
    rw [completes]
    exact ⟨rfl, by simp [State.answerSent], (frame_answerSent i rest s).trans (frame_settle _)⟩
  case refusalFrame =>
    refine State.sLine_frame running ?_
    simp only [State.stationFrame, sending, refusals, List.head?_cons, Option.map_some]
    rfl
  case refusalSent =>
    have completes : s.completeStation = s.refusalSent rest := by
      simp only [State.completeStation, sending, State.refusalSent, refusals, List.tail_cons]
    refine ⟨_, exec_sPortTransmitComplete running, ?_⟩
    rw [completes]
    exact ⟨rfl, (frame_refusalSent rest s).trans (frame_settle _)⟩

/-! ### The S-port leaves UP (R175) -/

section
variable (s : State)

theorem dropStation_entry (i : EntryIndex) : s.dropStation.table[i] = s.table[i].freeIfReturning := by
  simp [State.dropStation, freeReturning]

theorem Entry.freeIfReturning_of_not {e : Entry} (other : e.state.isReturning = false) : e.freeIfReturning = e := by
  simp only [Entry.freeIfReturning, other, Bool.false_eq_true, if_false]

theorem Entry.freeIfReturning_of {e : Entry} (returning : e.state.isReturning = true) :
    e.freeIfReturning = ⟨e.generation, .free⟩ := by simp only [Entry.freeIfReturning, returning, if_true]

theorem dropStation_entryState (i : EntryIndex) : s.dropStation.entryState i
    = if (s.entryState i).isReturning then .free else s.entryState i := by
  simp only [State.entryState, dropStation_entry, Entry.freeIfReturning, apply_ite Entry.state]
  rfl

theorem dropStation_count (c : Counter) : s.dropStation.count c
    = if c = .answersDiscarded then s.count c + BitVec.ofNat 32 s.returningCount
      else if c = .refusalsDropped then s.count c + BitVec.ofNat 32 s.sPort.refusals.length else s.count c := by
  have counts : s.dropStation.count c = (State.bumpBy s.sPort.refusals.length .refusalsDropped
      (State.bumpBy s.returningCount .answersDiscarded s)).count c := rfl
  rw [counts, State.bumpBy_count, State.bumpBy_count]
  by_cases discarded : c = .answersDiscarded
  · simp [discarded]
  · by_cases dropped : c = .refusalsDropped <;> simp [discarded, dropped]

/-- What the loss of the S-port changes before LINK_CHANGE. -/
def dropStationParts : List Part :=
  [.link .station, .replies, .slot, .returns, .refusals, .stationTransmission, .counter .answersDiscarded,
    .counter .refusalsDropped] ++ entryIndices.map .entry

theorem frame_dropStation : SameBut dropStationParts s s.dropStation := by
  intro p unlisted
  cases p
  case counter c =>
    have others : c ≠ .answersDiscarded ∧ c ≠ .refusalsDropped := by simpa [dropStationParts] using unlisted
    simp [Part.Kept, dropStation_count, others]
  case entry i => exact absurd (by simp [dropStationParts, entryIndices]) unlisted
  case link p =>
    cases p
    case station => exact absurd (by simp [dropStationParts]) unlisted
    case node => rfl
  all_goals simp_all [Part.Kept, dropStationParts, State.dropStation]

end

theorem exec_lossOfSignal_station {s : State} (reaches : FrameReaches .station s) :
    exec (.lossOfSignal .station) s = .next s.stationLeavesUp.settle := by
  show taken (State.loseSignal .station) s = _
  rw [taken_running reaches.running]
  cases h : s.link .station with
  | up => simp only [State.loseSignal, h, State.leaveUp]
  | down | syncing => exact absurd reaches.linkUp (by simp [h, Link.isUp])

/-- The loss of the S-port with no reset awaited, and what it leaves for the transmitter (R175). -/
theorem exec_lossOfSignal_notAwaited {s : State} (reaches : FrameReaches .station s)
    (notAwaited : s.session.resetAwaited = false) :
    exec (.lossOfSignal .station) s = .next (s.dropStation.setStatus .linkChange).settle := by
  rw [exec_lossOfSignal_station reaches]
  simp only [State.stationLeavesUp, State.dropStation_resetAwaited, notAwaited, Bool.false_eq_true, if_false]

/-- Settles O23: what the port held is dropped, and LINK_CHANGE alone acts on the notice sender. -/
theorem stationPortLeavesUp : Obligations.StationPortLeavesUp := by
  intro s reaches notAwaited
  have status := (frame_setStatus .linkChange s.dropStation).trans (frame_settle _)
  refine ⟨_, exec_lossOfSignal_notAwaited reaches notAwaited, ?_, ?_, ?_, ?_, ?_, fun closed => ?_, fun o opened => ?_,
    fun i => ?_, ?_, ?_, ?_, ?_⟩
  · exact status (.link .station) (by decide)
  · exact status .replies (by decide)
  · exact status .returns (by decide)
  · exact status .refusals (by decide)
  · exact settle_silent (by simp [State.dropStation]) (by simp [State.dropStation, Link.isUp])
  · have noNotice : s.dropStation.setStatus .linkChange = _ := State.evalNotice_closed closed
    rw [noNotice]
    exact ⟨rfl, rfl⟩
  · have events : (s.dropStation.setStatus .linkChange).settle.events
        = { s.events with status := s.events.status ||| EventKind.linkChange.mask } := by
      rw [State.settle_events]
      exact State.evalNotice_events _
    rw [events]
    exact noticeEvaluated_evalNotice (s := { s.dropStation with
      events := { s.events with status := s.events.status ||| EventKind.linkChange.mask } }) opened
  · have kept := status (.entry i) (by simp [statusParts, noticeParts])
    simp only [Part.Kept, dropStation_entry] at kept
    rw [kept]
    cases entry : s.entryState i with
    | returning x a => exact Entry.freeIfReturning_of (congrArg EntryState.isReturning entry)
    | free | held | queued | inFlight => exact Entry.freeIfReturning_of_not (congrArg EntryState.isReturning entry)
  · have kept := status (.counter .answersDiscarded) (by decide)
    rw [kept, dropStation_count]
    simp [State.returningCount]
  · have kept := status (.counter .refusalsDropped) (by decide)
    rw [kept, dropStation_count]
    simp
  · simp
  · refine ((frame_dropStation s).trans status).mono ?_
    simp only [dropStationParts, statusParts, noticeParts, List.mem_append]
    grind

end Sys2Proof.Machine
end

section
/-! PROOFS. The management reset. -/
namespace Sys2Proof.Machine

/-- What a management reset leaves from the state it is performed on (R148). -/
structure SameForReset (s u : State) : Prop where
  log : u.log = s.log
  fallback : u.fallback = s.fallback
  nodeLink : u.nPort.link = s.nPort.link
  now : u.now = s.now
  number : u.session.number = s.session.number
  control : u.control = s.control

/-- An idle transmitter with nothing in its queues stays idle (R173). -/
theorem StationPort.arbitrated_empty {p : StationPort} (idle : p.sending = none) (replies : p.replies = [])
    (slot : p.slot = none) (returns : p.returns = []) (refusals : p.refusals = []) : p.arbitrated = none := by
  simp [StationPort.arbitrated, idle, StationPort.choice, replies, slot, returns, refusals]

theorem State.alert_of_none {s : State} (none : s.events.status = 0) : s.alert = false := by
  simp [State.alert, EventUnit.lineSet, none]

/-- The blocks after the reset, with what it does not reset as the state before the step had it (R22 to R182). -/
theorem afterManagementReset {s u : State} (same : SameForReset s u) :
    AfterManagementReset u.entriesInUse s u.managementReset.settle := by
  obtain ⟨log, fallback, nodeLink, now, number, control⟩ := same
  constructor
  case table => simp [State.managementReset, resetTable]
  case cause => rfl
  case holds => rfl
  case banks => exact ⟨rfl, rfl⟩
  case commit => rfl
  case epoch => rfl
  case meters => simp [State.managementReset, resetMeters]
  case events => exact ⟨rfl, rfl, rfl⟩
  case alert => exact State.alert_of_none rfl
  case notice => rfl
  case session =>
    rw [← number]
    rfl
  case mode =>
    rw [← control]
    cases start : u.control.start <;> simp [State.managementReset, startMode, resetPeriod, start]
  case queues => exact ⟨rfl, rfl, rfl, rfl, rfl⟩
  case idle =>
    refine ⟨(State.settle_sPort_sending _).trans (StationPort.arbitrated_empty rfl rfl rfl rfl rfl), ?_⟩
    simp [NodePort.started, State.managementReset]
  case counters => exact ⟨fun c => by simp [State.managementReset, State.count, resetCounters], rfl⟩
  case kept => exact ⟨log, fallback, nodeLink, now⟩

/-- Settles O5: the reply sent and the S-port's loss each leave what the reset keeps, and the reset follows. -/
theorem managementResetLeaves : Obligations.ManagementResetLeaves := by
  refine ⟨fun s part h rest running awaited sending replies => ?sent, fun s reaches awaited => ?lost⟩
  case sent =>
    have same : SameForReset s (s.replySent rest) := ⟨rfl, rfl, rfl, rfl, rfl, rfl⟩
    have used : (s.replySent rest).entriesInUse = entryIndices.countP fun i => decide (s.entryState i ≠ .free) := by
      refine List.countP_congr fun i _ => ?_
      show (!(s.entryState i).isFree) = true ↔ _
      cases s.entryState i <;> simp [EntryState.isFree]
    refine ⟨_, exec_sPortTransmitComplete running, ?_⟩
    rw [State.completeStation_last sending replies (Nat.zero_le _), if_pos ⟨awaited, rfl, rfl⟩, ← used]
    exact ⟨afterManagementReset same, rfl⟩
  case lost =>
    have same : SameForReset s (s.dropStation.setStatus .linkChange) := by
      constructor <;> simp [State.dropStation]
    have performed : s.stationLeavesUp = (s.dropStation.setStatus .linkChange).managementReset := by
      simp only [State.stationLeavesUp, State.dropStation_resetAwaited, awaited, if_true]
    refine ⟨_, exec_lossOfSignal_station reaches, ?_⟩
    rw [performed]
    refine ⟨?_, ?_⟩
    · refine Eq.mp (congrArg (AfterManagementReset · s _) ?_) (afterManagementReset same)
      refine List.countP_congr fun i _ => ?_
      rw [State.setStatus_entryState, dropStation_entryState]
      cases s.entryState i <;> simp [EntryState.isReturning, EntryState.isFree]
    · simp [State.managementReset, State.dropStation]

end Sys2Proof.Machine
end

section
/-! PROOFS. The reception checks, and the frames that pass them. -/
namespace Sys2Proof.Machine

/-! ### A frame split (R183) -/

/-- The bytes of a complete frame of at least seven. -/
def rawBytes (kind dest src tag len : Byte) (body : List Byte) (hi lo : Byte) : List Byte :=
  [kind, dest, src, tag, len] ++ body ++ [hi, lo]

section
variable (kind dest src tag len : Byte) (body : List Byte) (hi lo : Byte)

theorem splitFrame_rawBytes : splitFrame (rawBytes kind dest src tag len body hi lo)
    = if len.toNat = body.length then some ⟨kind, dest, src, tag, body⟩ else none := by
  have split : splitFrame (rawBytes kind dest src tag len body hi lo)
      = if (body ++ [hi, lo]).length = len.toNat + 2
        then some ⟨kind, dest, src, tag, (body ++ [hi, lo]).take len.toNat⟩ else none := by
    simp only [rawBytes, List.cons_append, List.nil_append, splitFrame]
  rw [split]
  by_cases agrees : len.toNat = body.length
  · rw [if_pos agrees, if_pos (by simp [agrees]), agrees, List.take_left]
  · rw [if_neg agrees, if_neg fun same => agrees (by simp at same; omega)]

theorem splitFrame_short {bytes : List Byte} (short : bytes.length < 7) : splitFrame bytes = none := by
  unfold splitFrame
  split
  case h_1 kind dest src tag len rest =>
    simp only [List.length_cons] at short
    rw [if_neg (by omega)]
  case h_2 => rfl

theorem sequenceHolds_rawBytes : sequenceHolds (rawBytes kind dest src tag len body hi lo) = true
    ↔ [hi, lo] = bytesOf16 (crc16 ([kind, dest, src, tag, len] ++ body)) := by
  have covered : (rawBytes kind dest src tag len body hi lo).length - 2 = ([kind, dest, src, tag, len] ++ body).length := by
    simp [rawBytes]
  rw [sequenceHolds, decide_eq_true_eq, covered, rawBytes, List.drop_left, List.take_left, bytesOf16_eq]

end

/-! ### The body that a kind allows (R170 check 1) -/

theorem readStatus_isSome (b : Byte) : (readStatus b).isSome = true ↔ b.toNat ≤ 2 := by
  unfold readStatus
  split
  · simp [*]
  split
  · simp [*]
  split
  · simp [*]
  · have := b.isLt
    simp
    bv_omega

theorem some_of_ite {α : Type} {p : Prop} [Decidable p] {x : Option α}
    (some : (if p then x else none).isSome = true) : p := by
  split at some
  case isTrue holds => exact holds
  case isFalse => cases some

theorem readRequest_isSome (body : List Byte) : (readRequest body).isSome = true
    ↔ ∃ operation high low n data, body = operation :: high :: low :: n :: data
      ∧ ((operation = 0x01 ∧ data = [] ∧ 1 ≤ n.toNat ∧ n.toNat ≤ 64)
        ∨ (operation = 0x02 ∧ data.length = n.toNat ∧ 1 ≤ n.toNat ∧ n.toNat ≤ 64)
        ∨ (operation = 0x03 ∧ data.length = n.toNat ∧ n.toNat ≤ 16 ∧ high = 0)) := by
  match body with
  | [] | [_] | [_, _] | [_, _, _] => simp [readRequest]
  | operation :: high :: low :: n :: data =>
    simp only [readRequest, List.length_eq_zero_iff]
    constructor
    · intro reads
      refine ⟨operation, high, low, n, data, rfl, ?_⟩
      split at reads
      case isTrue read => exact .inl ⟨read, some_of_ite reads⟩
      split at reads
      case isTrue write => exact .inr (.inl ⟨write, some_of_ite reads⟩)
      split at reads
      case isTrue exec => exact .inr (.inr ⟨exec, some_of_ite reads⟩)
      case isFalse => cases reads
    · rintro ⟨operation, high, low, n, data, same, allowed⟩
      cases same
      rcases allowed with ⟨rfl, allowed⟩ | ⟨rfl, allowed⟩ | ⟨rfl, allowed⟩ <;> simp [allowed]

theorem readResponse_isSome (body : List Byte) : (readResponse body).isSome = true
    ↔ ∃ status detail data, body = status :: detail :: data ∧ status.toNat ≤ 2 ∧ data.length ≤ 64 := by
  match body with
  | [] | [_] => simp [readResponse]
  | status :: detail :: data =>
    simp only [readResponse]
    constructor
    · intro reads
      have fits := some_of_ite reads
      rw [if_pos fits, Option.isSome_map] at reads
      exact ⟨status, detail, data, rfl, (readStatus_isSome status).1 reads, fits⟩
    · rintro ⟨status, detail, data, same, valid, fits⟩
      cases same
      rw [if_pos fits, Option.isSome_map]
      exact (readStatus_isSome status).2 valid

theorem readCommand_isSome (body : List Byte) :
    (readCommand body).isSome = true ↔ 3 ≤ body.length ∧ body.length ≤ 72 := by
  match body with
  | [] | [_] | [_, _] => simp [readCommand]
  | code :: high :: low :: args =>
    simp only [readCommand, List.length_cons]
    split
    case isTrue fits => exact iff_of_true rfl ⟨by omega, by omega⟩
    case isFalse fits => exact iff_of_false (by simp) (by omega)

theorem readBody_isSome (kind dest src tag : Byte) (body : List Byte) :
    (readBody ⟨kind, dest, src, tag, body⟩).isSome = true ↔ BodyAllowed kind body := by
  unfold BodyAllowed
  rw [← readRequest_isSome, ← readResponse_isSome, ← readCommand_isSome]
  simp only [readBody]
  grind

/-! ### The kind that a port accepts (R170 check 4) -/

theorem request_of_readRequest {body : List Byte} {b : FrameBody} (reads : readRequest body = some b) :
    ∃ register x, b = .request register x := by
  unfold readRequest at reads
  grind

theorem response_of_readResponse {body : List Byte} {b : FrameBody} (reads : readResponse body = some b) :
    ∃ status detail data, b = .response status detail data := by
  match body with
  | [] | [_] => cases reads
  | status :: detail :: data =>
    simp only [readResponse] at reads
    split at reads
    case isFalse => cases reads
    obtain ⟨known, -, rfl⟩ := Option.map_eq_some_iff.1 reads
    exact ⟨known, detail, data, rfl⟩

theorem command_of_readCommand {body : List Byte} {b : FrameBody} (reads : readCommand body = some b) :
    ∃ code sequence args, b = .command code sequence args := by
  unfold readCommand at reads
  grind

/-- What check 4 lets through: a REQUEST or a COMMAND to the own address at the S-port, a RESPONSE at the N-port. -/
def KindAccepted (p : PortName) (own kind dest : Byte) : Prop :=
  (p = .station ∧ (kind = 0x01 ∨ kind = 0x03 ∧ dest = own)) ∨ (p = .node ∧ kind = 0x02)

theorem acceptedKind_isSome (p : PortName) (own : Byte) {kind dest src tag : Byte} {body : List Byte} {b : FrameBody}
    (reads : readBody ⟨kind, dest, src, tag, body⟩ = some b) :
    (acceptedKind p own ⟨kind, dest, src, tag, body⟩ b).isSome = true ↔ KindAccepted p own kind dest := by
  simp only [readBody] at reads
  split at reads
  case isTrue request =>
    obtain ⟨register, x, rfl⟩ := request_of_readRequest reads
    cases p <;> simp [acceptedKind, KindAccepted, request]
  split at reads
  case isTrue response =>
    obtain ⟨status, detail, data, rfl⟩ := response_of_readResponse reads
    cases p <;> simp [acceptedKind, KindAccepted, response]
  split at reads
  case isTrue command =>
    obtain ⟨code, sequence, args, rfl⟩ := command_of_readCommand reads
    cases p <;> simp [acceptedKind, KindAccepted, command]
  case isFalse notRequest notResponse notCommand =>
    have other : b = .other := by grind
    subst other
    refine iff_of_false (by simp [acceptedKind]) ?_
    rintro (⟨-, request | ⟨command, -⟩⟩ | ⟨-, response⟩)
    · exact notRequest request
    · exact notCommand command
    · exact notResponse response

/-! ### The checks in order (R170) -/

section
variable {p : PortName} {own kind dest src tag len : Byte} {body : List Byte} {hi lo : Byte}

/-- With the length right, the checks after the first decide in their order (R170). -/
theorem checkFrame_rawBytes (agrees : len.toNat = body.length) {b : FrameBody}
    (reads : readBody ⟨kind, dest, src, tag, body⟩ = some b) :
    checkFrame p own (rawBytes kind dest src tag len body hi lo)
      = if ¬ [hi, lo] = bytesOf16 (crc16 ([kind, dest, src, tag, len] ++ body)) then .error .checkSequence
        else if ¬ (validAddress dest = true ∧ validAddress src = true) then .error .addresses
        else (acceptedKind p own ⟨kind, dest, src, tag, body⟩ b).elim (.error .kindForPort) .ok := by
  have sequence : (!sequenceHolds (rawBytes kind dest src tag len body hi lo)) = true
      ↔ ¬ [hi, lo] = bytesOf16 (crc16 ([kind, dest, src, tag, len] ++ body)) := by
    rw [Bool.not_eq_true', ← sequenceHolds_rawBytes, Bool.not_eq_true]
  have addresses : (!(linkAddress dest && linkAddress src)) = true
      ↔ ¬ (validAddress dest = true ∧ validAddress src = true) := by
    rw [Bool.not_eq_true', Bool.eq_false_iff, ne_eq, Bool.and_eq_true]
    rfl
  simp only [checkFrame, splitFrame_rawBytes, if_pos agrees, reads, sequence, addresses]
  cases acceptedKind p own ⟨kind, dest, src, tag, body⟩ b <;> rfl

end

/-- Settles O11: each check by its lemma, in the order that `checkFrame` makes them. -/
theorem firstFailedCheckDecides : Obligations.FirstFailedCheckDecides := by
  refine ⟨fun p own bytes short => ?short, ?checks⟩
  case short => simp only [checkFrame, splitFrame_short short]
  case checks =>
    intro p own kind dest src tag len body hi lo covered bytes lengthHolds sequenceHolds addressesHold kindAccepted
    have frame : bytes = rawBytes kind dest src tag len body hi lo := rfl
    rw [frame]
    refine ⟨fun wrong => ?length, ?_⟩
    case length =>
      by_cases agrees : len.toNat = body.length
      · have content : readBody ⟨kind, dest, src, tag, body⟩ = none := by
          rw [← Option.not_isSome_iff_eq_none, readBody_isSome]
          exact fun allowed => wrong ⟨agrees, allowed⟩
        simp only [checkFrame, splitFrame_rawBytes, if_pos agrees, content]
      · simp only [checkFrame, splitFrame_rawBytes, if_neg agrees]
    by_cases holds : lengthHolds
    case neg => exact ⟨fun h => absurd h holds, fun h => absurd h holds, fun h => absurd h holds, fun h => absurd h holds⟩
    obtain ⟨agrees, allowed⟩ := id holds
    obtain ⟨b, reads⟩ := Option.isSome_iff_exists.1 ((readBody_isSome kind dest src tag body).2 allowed)
    have accepted := acceptedKind_isSome p own reads
    rw [checkFrame_rawBytes agrees reads]
    refine ⟨fun _ sequence => if_pos sequence, fun _ sequence addresses => ?_, fun _ sequence addresses refused => ?_,
      fun _ sequence addresses kindFits => ?_⟩
    · rw [if_neg (not_not_intro sequence), if_pos addresses]
    · have none := Option.not_isSome_iff_eq_none.1 (mt accepted.1 refused)
      rw [if_neg (not_not_intro sequence), if_neg (not_not_intro addresses), none, Option.elim_none]
    · obtain ⟨a, some⟩ := Option.isSome_iff_exists.1 (accepted.2 kindFits)
      rw [if_neg (not_not_intro sequence), if_neg (not_not_intro addresses), some]
      exact ⟨a, rfl⟩

end Sys2Proof.Machine
end

section
/-! PROOFS. A frame received symbol by symbol is the frame taken whole. -/
namespace Sys2Proof.Machine

/-! ### A frame as it is sent passes its checks (R183) -/

theorem frameBytes_eq (kind dest src tag : Byte) (body : List Byte) : ∃ hi lo,
    [hi, lo] = bytesOf16 (crc16 ([kind, dest, src, tag, BitVec.ofNat 8 body.length] ++ body))
      ∧ frameBytes kind dest src tag body
        = rawBytes kind dest src tag (BitVec.ofNat 8 body.length) body hi lo := by
  refine ⟨_, _, rfl, ?_⟩
  have length : bigEndian 1 body.length = [BitVec.ofNat 8 body.length] := by simp
  simp only [frameBytes, length, bytesOf16_eq, rawBytes, List.cons_append, List.nil_append]
  rfl

theorem checkFrame_frameBytes {p : PortName} {own kind dest src tag : Byte} {body : List Byte} {b : FrameBody}
    {a : Accepted} (short : body.length < 256) (reads : readBody ⟨kind, dest, src, tag, body⟩ = some b)
    (destValid : validAddress dest = true) (srcValid : validAddress src = true)
    (accepted : acceptedKind p own ⟨kind, dest, src, tag, body⟩ b = some a) :
    checkFrame p own (frameBytes kind dest src tag body) = .ok a := by
  obtain ⟨hi, lo, sequence, bytes⟩ := frameBytes_eq kind dest src tag body
  have agrees : (BitVec.ofNat 8 body.length).toNat = body.length := by
    rw [BitVec.toNat_ofNat, Nat.mod_eq_of_lt short]
  rw [bytes, checkFrame_rawBytes agrees reads, if_neg (not_not_intro sequence), if_neg (not_not_intro ⟨destValid, srcValid⟩),
    accepted, Option.elim_some]

/-! ### The bodies read back (R184, R185) -/

/-- The two bytes of a 16-bit value spell it. -/
theorem half_of_bytes (x : Half) :
    BitVec.ofNat 16 ((BitVec.ofNat 8 (x.toNat / 256)).toNat * 256 + (BitVec.ofNat 8 x.toNat).toNat) = x := by
  apply BitVec.eq_of_toNat_eq
  have := x.isLt
  simp only [BitVec.toNat_ofNat]
  omega

theorem requestBytes_eq (q : Request) : requestBytes q = operationCode (requestOperation q.body)
    :: BitVec.ofNat 8 (q.register.toNat / 256) :: BitVec.ofNat 8 q.register.toNat
    :: BitVec.ofNat 8 (requestDataLength q.body) :: requestData q.body := by
  simp [requestBytes]

section
variable (high low : Byte)

/-- The register address that two bytes of a body spell. -/
def registerOf : Half := BitVec.ofNat 16 (high.toNat * 256 + low.toNat)

theorem readRequest_read {n : Byte} (few : 1 ≤ n.toNat ∧ n.toNat ≤ 64) :
    readRequest [0x01, high, low, n] = some (.request (registerOf high low) (.read n)) := by
  simp [readRequest, registerOf, few]

theorem readRequest_write {data : List Byte} (few : 1 ≤ data.length ∧ data.length ≤ 64) :
    readRequest (0x02 :: high :: low :: BitVec.ofNat 8 data.length :: data)
      = some (.request (registerOf high low) (.write data)) := by
  have length : (BitVec.ofNat 8 data.length).toNat = data.length := by
    rw [BitVec.toNat_ofNat, Nat.mod_eq_of_lt (by omega)]
  simp only [readRequest, length, few, and_self, if_true]
  rfl

theorem readRequest_exec {arguments : List Byte} (few : arguments.length ≤ 16) :
    readRequest (0x03 :: 0 :: low :: BitVec.ofNat 8 arguments.length :: arguments)
      = some (.request (registerOf 0 low) (.exec arguments)) := by
  have length : (BitVec.ofNat 8 arguments.length).toNat = arguments.length := by
    rw [BitVec.toNat_ofNat, Nat.mod_eq_of_lt (by omega)]
  simp only [readRequest, length, few, and_self, if_true]
  rfl

end

theorem readRequest_requestBytes {q : Request} (formed : q.body.wellFormed q.register = true) :
    readRequest (requestBytes q) = some (.request q.register q.body) := by
  have register : registerOf (BitVec.ofNat 8 (q.register.toNat / 256)) (BitVec.ofNat 8 q.register.toNat) = q.register :=
    half_of_bytes q.register
  rw [requestBytes_eq]
  cases body : q.body with
  | read wanted =>
    rw [body, RequestBody.wellFormed, decide_eq_true_eq] at formed
    have reads := readRequest_read (BitVec.ofNat 8 (q.register.toNat / 256)) (BitVec.ofNat 8 q.register.toNat) formed
    rw [register] at reads
    simpa only [requestOperation, operationCode, requestDataLength, requestData, BitVec.ofNat_toNat,
      BitVec.setWidth_eq] using reads
  | write data =>
    rw [body, RequestBody.wellFormed, decide_eq_true_eq] at formed
    have reads := readRequest_write (BitVec.ofNat 8 (q.register.toNat / 256)) (BitVec.ofNat 8 q.register.toNat) formed
    rw [register] at reads
    exact reads
  | exec arguments =>
    rw [body, RequestBody.wellFormed, decide_eq_true_eq] at formed
    obtain ⟨few, oneByte⟩ := formed
    have high : BitVec.ofNat 8 (q.register.toNat / 256) = 0 := by
      rw [Nat.div_eq_of_lt (by omega), BitVec.ofNat_eq_ofNat]
    have reads := readRequest_exec (BitVec.ofNat 8 q.register.toNat) few
    rw [high] at register ⊢
    rw [register] at reads
    exact reads

theorem readResponse_statusCode (status : NodeStatus) (detail : Byte) {data : List Byte} (few : data.length ≤ 64) :
    readResponse (statusCode status :: detail :: data) = some (.response status detail data) := by
  have code : readStatus (statusCode status) = some status := by cases status <;> rfl
  simp only [readResponse, if_pos few, code, Option.map_some]

theorem readCommand_bytes (code : Byte) (sequence : Half) {args : List Byte} (few : args.length ≤ 69) :
    readCommand (code :: bytesOf16 sequence ++ args) = some (.command code sequence args) := by
  rw [← bytesOf16_eq]
  simp only [bigEndian_succ, bigEndian_zero, Nat.pow_one, Nat.pow_zero, Nat.div_one, List.cons_append, List.nil_append,
    readCommand, if_pos few, half_of_bytes]

/-! ### The end of a frame (R170, R171) -/

/-- An end delimiter under reception completes the frame, which is taken at that moment (R170). -/
theorem exec_endDelimiter {p : PortName} {s : State} {r : Reception} (framed : s.link p = .up (some r)) :
    exec (.otherSymbol p .endDelimiter) s = execFrame p r.stamp r.bytes s := by
  show execOtherSymbol p .endDelimiter s = _
  simp only [execOtherSymbol, framed]

/-- Settles O9: what the checks give for the frame's bytes is the row of the table whose meaning the frame is handed to. -/
theorem endDelimiterRunsTheFrame : Obligations.EndDelimiterRunsTheFrame := by
  refine ⟨fun q r s formed framed bytes => ?request, fun a r s formed framed bytes => ?response,
    fun code h args r s formed own framed bytes => ?command, fun p r failed s framed fails => ?rejected⟩
  case request =>
    simp only [Request.wellFormed, Bool.and_eq_true] at formed
    obtain ⟨⟨station, node⟩, body⟩ := formed
    have short : (requestBytes q).length < 256 := by
      rw [requestBytes_eq]
      cases kind : q.body <;> simp_all [RequestBody.wellFormed, requestData] <;> omega
    have checked : checkFrame .station s.control.ownAddress r.bytes = .ok (.request q) := by
      rw [bytes]
      exact checkFrame_frameBytes short (readRequest_requestBytes body) node station rfl
    rw [exec_endDelimiter framed]
    simp only [execFrame, checked]
    rfl
  case response =>
    simp only [Response.wellFormed, Bool.and_eq_true, decide_eq_true_eq] at formed
    obtain ⟨⟨station, node⟩, few⟩ := formed
    have checked : checkFrame .node s.control.ownAddress r.bytes = .ok (.response a) := by
      rw [bytes]
      exact checkFrame_frameBytes (by simp only [List.length_cons]; omega) (readResponse_statusCode a.status a.detail few)
        station node rfl
    rw [exec_endDelimiter framed]
    simp only [execFrame, checked]
    rfl
  case command =>
    simp only [CommandHeader.wellFormed, Bool.and_eq_true, decide_eq_true_eq] at formed
    obtain ⟨source, few⟩ := formed
    have checked : checkFrame .station s.control.ownAddress r.bytes = .ok (.command code h args) := by
      rw [bytes]
      exact checkFrame_frameBytes (by simp [bytesOf16]; omega) (readCommand_bytes code h.sequence few) own source
        (if_pos rfl)
    rw [exec_endDelimiter framed, ← execCommandFrame_eq]
    simp only [execFrame, checked]
  case rejected =>
    rw [exec_endDelimiter framed]
    simp only [execFrame, fails]
    rfl

end Sys2Proof.Machine
end

section
/-! PROOFS. Commands that the Agent discards or does not know, PROBE, OPEN, and RESET_PART. -/
namespace Sys2Proof.Machine

/-! ### Commands discarded (R129, R147) -/

/-- Whatever the code, a COMMAND frame is handed to the Agent. -/
theorem exec_commandRow_agent (code : Byte) (h : CommandHeader) (args : List Byte) :
    ∃ effect : State → State, ∀ s, exec (commandRow code h args) s = agent effect s := by
  unfold commandRow
  split
  case h_1 c _ =>
    obtain ⟨effect, runs, -⟩ := exec_row_agent c h args
    exact ⟨effect, runs⟩
  case h_2 => exact ⟨_, fun _ => rfl⟩

theorem agent_awaited {s : State} (reaches : FrameReaches .station s) (awaited : s.session.resetAwaited = true)
    (effect : State → State) : agent effect s = .next (s.accept .station).settle := by
  simp only [agent, acceptedAt_reaches reaches, State.accept_session, awaited, if_true]

theorem agent_full {s : State} (reaches : FrameReaches .station s) (notAwaited : s.session.resetAwaited = false)
    (full : 4 ≤ s.sPort.replies.length) (effect : State → State) :
    agent effect s = .next ((s.accept .station).bump .managementOverruns).settle := by
  simp only [agent, acceptedAt_reaches reaches, State.accept_session, notAwaited, Bool.false_eq_true, if_false,
    State.accept_sPort_replies, Config.replyCapacity, if_neg (Nat.not_lt.2 full)]

/-- Settles O43: the Agent looks at the reset awaited and at its queue before it looks at the command. -/
theorem commandsDiscarded : Obligations.CommandsDiscarded := by
  intro code h args s reaches
  obtain ⟨effect, runs⟩ := exec_commandRow_agent code h args
  rw [runs]
  refine ⟨fun awaited => ?awaited, fun notAwaited full => ?full⟩
  case awaited =>
    have settled := frame_settle (s.accept .station)
    exact ⟨_, agent_awaited reaches awaited effect, FrameTaken.of_effect settled (by simp) (by simp),
      ((frame_accept .station s).trans settled).mono (by simp)⟩
  case full =>
    have after := (frame_bumpBy 1 .managementOverruns (s.accept .station)).trans (frame_settle _)
    refine ⟨_, agent_full reaches notAwaited full effect, FrameTaken.of_effect after (by simp) (by simp), by simp,
      ((frame_accept .station s).trans after).mono ?_⟩
    simp only [List.mem_append, List.mem_cons]
    grind

/-! ### Unknown codes, wrong forms and RESET_PART (R140, R147) -/

/-- A new command whose arguments have not its form is answered before its own body is looked at (R140). -/
theorem exec_row_wrongForm {h : CommandHeader} {o : OpenSession} {args : List Byte} {s : State} (new : NewCommand h o s)
    {c : CommandName} (notProbe : c ≠ .probe) (notOpen : c ≠ .openSession) (wrong : args.length ≠ c.argBytes) :
    exec (c.row h args) s = .next (answerNew c.code h o ((s.accept .station).badField 0)).settle := by
  have viaCommand (body : State → Answered) : command c h args body s
      = .next (answerNew c.code h o ((s.accept .station).badField 0)).settle := by
    rw [command_new new, executed, if_neg wrong]
  cases c
  case probe => exact absurd rfl notProbe
  case openSession => exact absurd rfl notOpen
  case closeSession =>
    show execClose h args s = _
    rw [execClose, agent_reaches new.reaches, sessionChecked_new new, if_neg wrong]
  all_goals exact viaCommand _

theorem frame_awaitReset (s : State) : SameBut [.resetAwaited] s s.awaitReset := by
  intro p hp; cases p <;> simp_all [Part.Kept, State.awaitReset, State.count]
  case link p => cases p <;> rfl

theorem exec_resetPart (h : CommandHeader) (args : List Byte) (s : State) :
    exec (.resetPart h args) s = command .resetPart h args (fun s => s.awaitReset.answer .done []) s := rfl

theorem exec_unknownCommand {h : CommandHeader} {o : OpenSession} {s : State} (new : NewCommand h o s) (code : Byte)
    (args : List Byte) : exec (.unknownCommand code h args) s
      = .next (answerNew code h o ((s.accept .station).answer .badCommand [])).settle := by
  show execUnknownCommand code h args s = _
  rw [execUnknownCommand, agent_reaches new.reaches, sessionChecked_new new]

/-- An answer that changes nothing, given to a new command (R137). -/
theorem answers_unchanged {h : CommandHeader} {o : OpenSession} {s : State} (new : NewCommand h o s) (code : Byte)
    (result : ResultCode) (payload : List Byte) : Answers code h o result payload [] s
      (answerNew code h o ((s.accept .station).answer result payload)).settle :=
  answers_of_effect new code ((s.accept .station).answer result payload) [] (SameBut.refl [] _) (by simp) (by simp)
    (by simp) (by simp)

/-- Settles O44: the answer to an unknown code and to a wrong form changes nothing, and RESET_PART sets one flag. -/
theorem unknownWrongAndReset : Obligations.UnknownWrongAndReset := by
  intro h o args s new
  refine ⟨fun code unknown => ?unknown, fun c notProbe notOpen wrong => ?wrong, ?reset⟩
  case unknown => exact ⟨_, exec_unknownCommand new code args, answers_unchanged new code .badCommand []⟩
  case wrong => exact ⟨_, exec_row_wrongForm new notProbe notOpen wrong, answers_unchanged new c.code .badField [0, 0]⟩
  case reset =>
    rw [exec_resetPart]
    obtain ⟨t, taken, answers, after⟩ := command_answers_state (body := fun s => s.awaitReset.answer .done [])
      (u := (s.accept .station).awaitReset) new .resetPart [] rfl
      rfl (frame_awaitReset _) (by decide)
    exact ⟨t, taken, answers, after .resetAwaited (by decide)⟩

/-! ### The commands outside a session (R130) -/

section
variable {h : CommandHeader} {args : List Byte} {s : State} (reaches : CommandReaches s) (c : CommandName)
  (effect : State → State)
include reaches

theorem sessionless_sequence (numbered : h.sequence ≠ 0) : ∃ t, sessionless c h args effect s = .next t
    ∧ OnlyAnswers c.code h .badField [255, 0] s t := by
  refine ⟨_, agent_reaches reaches _, ?_⟩
  rw [if_pos numbered]
  exact onlyAnswers_turnAway c.code h .badField [255, 0] s

theorem sessionless_arguments (notNumbered : h.sequence = 0) (arguments : args ≠ []) :
    ∃ t, sessionless c h args effect s = .next t ∧ OnlyAnswers c.code h .badField [0, 0] s t := by
  refine ⟨_, agent_reaches reaches _, ?_⟩
  rw [if_neg (not_not_intro notNumbered), if_pos arguments]
  exact onlyAnswers_turnAway c.code h .badField [0, 0] s

theorem sessionless_formed (notNumbered : h.sequence = 0) (noArguments : args = []) :
    sessionless c h args effect s = .next (effect (s.accept .station)).settle := by
  rw [sessionless, agent_reaches reaches, if_neg (not_not_intro notNumbered), if_neg (not_not_intro noArguments)]

end

/-! ### PROBE (R131, R191) -/

theorem exec_probe (h : CommandHeader) (args : List Byte) (s : State) : exec (.probe h args) s
    = sessionless .probe h args (fun s => s.turnAway CommandName.probe.code h .done s.probePayload) s := rfl

theorem State.probePayload_eq (s : State) : s.probePayload
    = [0x54, 0xC1, 0x03, 0x18, 1, s.control.ownAddress, boolCode s.control.strapFault,
        if s.control.start = .opened then 0 else 1, s.control.mode.code, boolCode s.session.current.isSome]
      ++ ownerItem s.session.current ++ bytesOf16 s.session.number := by
  have start : startCode s.control.start = if s.control.start = .opened then 0 else 1 := by
    cases s.control.start <;> rfl
  simp only [State.probePayload, start, State.ownerPayload_eq, sessionStateByte]
  rfl

/-- Settles O39, by the two checks that PROBE makes first. -/
theorem probeReportsAndChangesNothing : Obligations.ProbeReportsAndChangesNothing := by
  intro h args s reaches
  refine ⟨fun notNumbered noArguments => ?reports, fun numbered => ?sequence, fun notNumbered arguments => ?arguments⟩ <;>
    rw [exec_probe]
  case reports =>
    rw [sessionless_formed reaches _ _ notNumbered noArguments]
    have answered := onlyAnswers_turnAway 0x01 h .done (s.accept .station).probePayload s
    rw [State.probePayload_eq, State.accept_control, State.accept_session] at answered
    refine ⟨_, rfl, ?_⟩
    rw [State.probePayload_eq, State.accept_control, State.accept_session]
    exact answered
  case sequence => exact sessionless_sequence reaches .probe _ numbered
  case arguments => exact sessionless_arguments reaches .probe _ notNumbered arguments

end Sys2Proof.Machine
end

section
/-! PROOFS. OPEN, the notices that a status and the retry timer make, and ENTER_FALLBACK. -/
namespace Sys2Proof.Machine

/-! ### What an evaluation of the notice condition reads -/

/-- An evaluation reads the sender, the slot, the Event Unit, the time, whether the slot's NOTICE is under transmission, and
what a NOTICE reports (R117, R118). -/
theorem NoticeEvaluated.from_alike {owner : Byte} {s u t : State} (h : NoticeEvaluated owner u t)
    (notice : u.notice = s.notice) (slot : u.sPort.slot = s.sPort.slot) (events : u.events = s.events)
    (now : u.now = s.now) (sending : u.sPort.sending = some .notice ↔ s.sPort.sending = some .notice)
    (content : ∀ number, noticeNow owner number u = noticeNow owner number s) : NoticeEvaluated owner s t := by
  unfold NoticeEvaluated at *
  simpa only [notice, slot, events, now, sending, content] using h

/-! ### A session is opened (R132) -/

section
variable (h : CommandHeader) (s : State)

theorem State.startSession_eq (owner : Byte) : s.startSession owner = (s.beginSession owner).evalNotice := rfl

theorem frame_beginSession (owner : Byte) : SameBut [.session, .sessionNumber, .liveness] s (s.beginSession owner) := by
  intro p hp; cases p <;> simp_all [Part.Kept, State.beginSession, State.count]
  case link p => cases p <;> rfl

/-- What opening a session changes. -/
def openParts : List Part := [.session, .sessionNumber, .liveness] ++ noticeParts ++ [.replies]

theorem frame_openFor : SameBut openParts s (s.openFor h) :=
  (((frame_beginSession s h.source).trans (frame_evalNotice _))).trans (frame_pushReply _ _)

theorem State.openFor_replies : (s.openFor h).sPort.replies
    = s.sPort.replies ++ [⟨h.source, h.tag, 0x02, h.sequence, .opened,
        bytesOf16 (nextNumber s.session.number) ++ [s.control.mode.code, s.commit.state.code]⟩] := by
  have number : (s.startSession h.source).session.number = nextNumber s.session.number := by
    rw [State.startSession_eq, State.evalNotice_session]; rfl
  simp only [State.openFor, State.turnAway, State.pushReply, State.openedPayload, number, bytesOf16_eq]
  simp [State.startSession, replyTo, CommandName.code]

theorem State.openFor_session : (s.openFor h).session
    = ⟨some ⟨h.source, 1, none⟩, nextNumber s.session.number, s.session.resetAwaited⟩ := by
  have kept : (s.openFor h).session = (s.startSession h.source).session := rfl
  rw [kept, State.startSession_eq, State.evalNotice_session]
  rfl

theorem State.openFor_liveness :
    (s.openFor h).control.liveness = .running (s.now + 100000 * s.control.period) := by
  have kept : (s.openFor h).control = (s.startSession h.source).control := rfl
  rw [kept, State.startSession_eq, State.evalNotice_control, ← State.livenessDeadline_eq]
  rfl

theorem openFor_noticeEvaluated : NoticeEvaluated h.source s (s.openFor h) := by
  have evaluated := noticeEvaluated_evalNotice (s := s.beginSession h.source) (o := ⟨h.source, 1, none⟩) rfl
  exact evaluated.of_eq rfl rfl

end

/-! ### OPEN by the state of the session (R132 to R134) -/

theorem exec_openSession (h : CommandHeader) (args : List Byte) (s : State) :
    exec (.openSession h args) s = sessionless .openSession h args (State.takeOpen h) s := rfl

section
variable {h : CommandHeader} {o : OpenSession} {s : State}

theorem State.takeOpen_closed (closed : s.session.current = none) : s.takeOpen h = s.openFor h := by
  simp only [State.takeOpen, closed]

theorem State.takeOpen_again (opened : s.session.current = some o)
    (may : h.source = o.owner ∨ ∃ d, s.control.liveness = .warned d) :
    s.takeOpen h = s.withdrawNotice.openFor h := by
  have allowed : h.source = o.owner ∨ s.control.liveness.isWarned = true := by
    rcases may with owner | ⟨d, warned⟩
    · exact .inl owner
    · exact .inr (by rw [warned]; rfl)
  simp only [State.takeOpen, opened, if_pos allowed]

theorem State.takeOpen_busy (opened : s.session.current = some o) (stranger : h.source ≠ o.owner)
    (notWarned : ∀ d, s.control.liveness ≠ .warned d) :
    s.takeOpen h = s.turnAway 0x02 h .sessionBusy ([1, o.owner] ++ bytesOf16 s.session.number) := by
  have refused : ¬ (h.source = o.owner ∨ s.control.liveness.isWarned = true) := by
    rintro (owner | warned)
    · exact stranger owner
    · cases liveness : s.control.liveness <;> simp_all [LivenessState.isWarned]
  simp only [State.takeOpen, opened, if_neg refused, State.ownerPayload_eq, ownerItem]
  rfl

end

/-- What opening a session reads of the state, which withdrawing a notice leaves. -/
def openReads : List Part :=
  [.link .station, .counter (.framesAccepted .station), .replies, .sessionNumber, .resetAwaited, .mode, .commit, .now,
    .period]

/-- OPENED, on a state that differs from the one which has accepted the frame by a notice withdrawn at most (R132). -/
theorem openFor_outcome {h : CommandHeader} {s u : State} {changed : List Part}
    (frame : SameBut changed (s.accept .station) u) (apart : ∀ p ∈ openReads, p ∉ changed)
    (notAwaited : s.session.resetAwaited = false) :
    FrameTaken .station s (u.openFor h).settle
    ∧ (u.openFor h).settle.sPort.replies = s.sPort.replies ++ [⟨h.source, h.tag, 0x02, h.sequence, .opened,
        bytesOf16 (nextNumber s.session.number) ++ [s.control.mode.code, s.commit.state.code]⟩]
    ∧ (u.openFor h).settle.session = ⟨some ⟨h.source, 1, none⟩, nextNumber s.session.number, false⟩
    ∧ (u.openFor h).settle.control.liveness = .running (s.now + 100000 * s.control.period) := by
  have replies := frame .replies (apart _ (by simp [openReads]))
  have number := frame .sessionNumber (apart _ (by simp [openReads]))
  have awaited := frame .resetAwaited (apart _ (by simp [openReads]))
  have mode := frame .mode (apart _ (by simp [openReads]))
  have commit := frame .commit (apart _ (by simp [openReads]))
  have now := frame .now (apart _ (by simp [openReads]))
  have period := frame .period (apart _ (by simp [openReads]))
  simp only [Part.Kept, State.accept_sPort_replies, State.accept_session, State.accept_control, State.accept_commit,
    State.accept_now] at replies number awaited mode commit now period
  have effect := frame.trans ((frame_openFor h u).trans (frame_settle _))
  refine ⟨FrameTaken.of_effect effect ?_ ?_, ?_, ?_, ?_⟩
  · exact List.not_mem_append (apart _ (by simp [openReads])) (by decide)
  · exact List.not_mem_append (apart _ (by simp [openReads])) (by decide)
  · rw [State.settle_sPort_replies, State.openFor_replies, replies, number, mode, commit]
  · rw [State.settle_session, State.openFor_session, number, awaited, notAwaited]
  · rw [State.settle_control, State.openFor_liveness, now, period]

/-- Settles O40: a session opens on the state that has accepted the frame, with the notice of an earlier session withdrawn
first. -/
theorem openOpensOrIsBusy : Obligations.OpenOpensOrIsBusy := by
  intro h args s reaches
  have current : (s.accept .station).session.current = s.session.current := by rw [State.accept_session]
  refine ⟨fun notNumbered noArguments may => ?opens, fun o notNumbered noArguments opened stranger notWarned => ?busy,
    fun numbered => ?sequence, fun notNumbered arguments => ?arguments⟩ <;> rw [exec_openSession]
  case opens =>
    intro number
    have next : nextNumber s.session.number = number := rfl
    clear_value number
    subst next
    rw [sessionless_formed reaches _ _ notNumbered noArguments]
    cases opened : s.session.current with
    | none =>
      obtain ⟨taken, replies, session, liveness⟩ := openFor_outcome (h := h) (SameBut.refl [] (s.accept .station)) (by simp)
        reaches.notAwaited
      rw [State.takeOpen_closed (current.trans opened), if_pos rfl]
      refine ⟨_, rfl, taken, replies, session, liveness, ?_, ?_⟩
      · exact noticeEvaluated_accept.1 (openFor_noticeEvaluated h (s.accept .station))
      · refine ((frame_accept .station s).trans ((frame_openFor h _).trans (frame_settle _))).mono ?_
        simp only [openParts, List.mem_append]
        grind
    | some o =>
      have again : h.source = o.owner ∨ ∃ d, (s.accept .station).control.liveness = .warned d := by
        rw [State.accept_control]
        rcases may with closed | ⟨o', same, owner⟩ | ⟨o', d, same, warned⟩
        · rw [opened] at closed; cases closed
        · rw [opened] at same; cases same; exact .inl owner
        · exact .inr ⟨d, warned⟩
      have withdrawn : withdrawnParts (s.accept .station) = withdrawnParts s := by simp [withdrawnParts]
      have frame := frame_withdrawNotice_sending (s.accept .station)
      rw [withdrawn] at frame
      obtain ⟨taken, replies, session, liveness⟩ := openFor_outcome (h := h)
        (frame_withdrawNotice (s.accept .station)) (by decide) reaches.notAwaited
      have evaluated := openFor_noticeEvaluated h (s.accept .station).withdrawNotice
      have silent : (s.accept .station).withdrawNotice.sPort.sending ≠ some .notice := by
        rw [State.withdrawNotice_sending]
        split <;> simp_all
      rw [State.takeOpen_again (current.trans opened) again, if_neg (by simp)]
      refine ⟨_, rfl, taken, replies, session, liveness, ?_, ?_⟩
      · exact evaluated.from_alike rfl rfl rfl rfl (iff_of_false silent (by simp)) fun _ => rfl
      · refine ((frame_accept .station s).trans (frame.trans ((frame_openFor h _).trans (frame_settle _)))).mono ?_
        simp only [openParts, withdrawnParts, List.mem_append]
        by_cases sending : s.sPort.sending = some .notice <;> simp [sending] <;> grind
  case busy =>
    rw [sessionless_formed reaches _ _ notNumbered noArguments, State.takeOpen_busy (current.trans opened) stranger
      (by rwa [State.accept_control]), State.accept_session]
    exact ⟨_, rfl, onlyAnswers_turnAway 0x02 h .sessionBusy _ s⟩
  case sequence => exact sessionless_sequence reaches .openSession _ numbered
  case arguments => exact sessionless_arguments reaches .openSession _ notNumbered arguments

/-! ### A status set, and a notice sent again (R117, R120) -/

theorem State.setStatus_eq (k : EventKind) (s : State) :
    s.setStatus k = State.evalNotice { s with events := { s.events with status := s.events.status ||| k.mask } } := rfl

theorem frame_setStatus_closed {s : State} (closed : s.session.current = none) (k : EventKind) :
    SameBut [.status k] s (s.setStatus k) := by
  intro p unlisted
  by_cases notice : p ∈ noticeParts
  case neg => exact frame_setStatus k s p (by simpa [statusParts, notice] using unlisted)
  case pos =>
    have same : s.setStatus k = _ := State.evalNotice_closed closed
    rw [same]
    have which : p = .noticeSender ∨ p = .slot := by simpa [noticeParts] using notice
    rcases which with rfl | rfl <;> rfl

/-- The slot and the retry timer are what a NOTICE sent again changes (R120). -/
theorem frame_resendNotice (owner : Byte) (s : State) : SameBut noticeParts s (s.resendNotice owner) := by
  intro p hp; cases p <;> simp_all [Part.Kept, State.resendNotice, State.count, noticeParts]
  case link p => cases p <;> rfl

theorem exec_noticeRetryExpiry {o : OpenSession} {d : Nat} {s : State} (running : s.heldInReset = false)
    (opened : s.session.current = some o) (awaiting : s.notice.state = .awaitingAck d) :
    exec .noticeRetryExpiry s = .next (s.resendNotice o.owner).settle := by
  have expires : exec .noticeRetryExpiry s = .next s.expireRetry.settle := taken_running running _
  simpa only [State.expireRetry, awaiting, opened] using expires

theorem State.retryDeadline_eq (s : State) : s.retryDeadline = s.now + 10000 * s.notice.interval := by
  simp [State.retryDeadline, millis]; omega

/-- Settles O38: the status is set and the condition evaluated; a NOTICE sent again is placed as a new one is. -/
theorem noticeMadeAndResent : Obligations.NoticeMadeAndResent := by
  refine ⟨fun k s => ⟨fun j => ?set, frame_setStatus k s, fun o opened => ?evaluated, fun closed => ?closed⟩,
    fun o d s running opened awaiting => ?resent⟩
  case set => rw [State.setStatus_isSet]
  case evaluated =>
    have events : (s.setStatus k).events = { s.events with status := s.events.status ||| k.mask } :=
      State.evalNotice_events _
    rw [events]
    exact noticeEvaluated_evalNotice (s := { s with events := { s.events with status := s.events.status ||| k.mask } })
      opened
  case closed => exact frame_setStatus_closed closed k
  case resent =>
    refine ⟨_, exec_noticeRetryExpiry running opened awaiting, ?_, fun free => ?_, fun busy => ?_,
      (frame_resendNotice _ s).trans (frame_settle _)⟩
    · rw [← State.retryDeadline_eq]; rfl
    · exact if_neg free
    · exact if_pos busy

/-! ### ENTER_FALLBACK (R161) -/

theorem fallbackRecordBytes_eq (f : FallbackRecord) : fallbackRecordBytes f = fallbackRecordReport f := by
  obtain ⟨count, cause, epoch⟩ := f
  rcases cause with _ | _ | _ <;> rcases epoch with _ | n <;> rfl

theorem exec_enterFallback (h : CommandHeader) (args : List Byte) (s : State) :
    exec (.enterFallback h args) s = command .enterFallback h args enterFallbackBody s := rfl

theorem enterFallbackBody_fallback {s : State} (mode : s.control.mode = .fallback) :
    enterFallbackBody s = s.answer .inFallback [] := by simp only [enterFallbackBody, mode]

theorem enterFallbackBody_governed {s : State} (mode : s.control.mode = .governed) : enterFallbackBody s
    = (s.enterFallback .command).answer .done
      (fallbackRecordReport (s.enterFallback .command).control.fallbackRecord
        ++ [BitVec.ofNat 8 s.holdQueue.length, if s.commit.state = .pending then 1 else 0]) := by
  have pending : boolCode (decide (s.commit.state = .pending)) = if s.commit.state = .pending then 1 else 0 := by
    simp [boolCode]
  simp only [enterFallbackBody, mode, fallbackRecordBytes_eq, pending, bigEndian_succ, bigEndian_zero,
    Nat.pow_zero, Nat.div_one, List.append_assoc, List.cons_append, List.nil_append]

/-! ### Fallback entry as a new command's effect -/

section
variable {cause : FallbackCause} {s t u : State}

/-- What accepting the command's frame changes, a fallback entry does not read (R68, R160). -/
theorem FellBack.from_accept (reaches : FrameReaches .station s) (h : FellBack cause (s.accept .station) t) :
    FellBack cause s t := by
  have alike := answersAlike_accept reaches
  have resolved : resolvedState (s.accept .station) = resolvedState s := by
    funext entry
    simp only [resolvedState, alike.stationUp, alike.nodeUp]
  have passes : passesByDefault (s.accept .station) = passesByDefault s := by
    funext r
    simp only [passesByDefault, State.accept_entryState]
  have forwarded : forwardedByDefault (s.accept .station) = forwardedByDefault s := by
    funext r
    simp only [forwardedByDefault, passes, alike.nodeUp]
  have records : resolutionRecords (s.accept .station) = resolutionRecords s := by
    funext r
    simp only [resolutionRecords, State.accept_entryState, alike.forwardRecords]
  constructor
  case mode => exact h.mode
  case commit => rw [h.commit, State.accept_commit]
  case cancelled => rw [h.cancelled, State.accept_commit]; simp
  case noHolds => exact h.noHolds
  case holdWaiting => exact h.holdWaiting
  case entries =>
    intro i
    rw [h.entries, resolved, State.accept_generation, State.accept_entryState]
  case nodeQueue => rw [h.nodeQueue, forwarded, State.accept_nPort_queue, State.accept_holdQueue]
  case returns => rw [h.returns, forwarded, alike.stationUp, State.accept_sPort_returns, State.accept_holdQueue]
  case expired => rw [h.expired, passes, State.accept_holdQueue, alike.refusals]
  case linkDown => rw [h.linkDown, passes, State.accept_holdQueue, alike.nodeUp, alike.refusals]
  case discarded => rw [h.discarded, forwarded, State.accept_holdQueue, alike.stationUp, alike.discarded]
  case record => rw [h.record, State.accept_control, State.accept_epoch]
  case alerted => exact h.alerted
  case log => rw [h.log, records, State.accept_epoch, State.accept_log, State.accept_holdQueue]
  case adopts => exact h.adopts.of_frames (frame_accept .station s) (SameBut.refl [] t) (by decide)

/-- What follows the execution of a new command leaves a fallback entry as it was (R137). -/
theorem FellBack.answered (h : FellBack cause s t) (after : SameBut [.session, .liveness, .replies] t u) :
    FellBack cause s u := by
  constructor
  case mode => exact (after .mode (by decide)).trans h.mode
  case commit => exact (after .commit (by decide)).trans h.commit
  case cancelled => exact (after (.counter _) (by decide)).trans h.cancelled
  case noHolds => exact (after .holdQueue (by decide)).trans h.noHolds
  case holdWaiting => exact (after (.status _) (by decide)).trans h.holdWaiting
  case entries => exact fun i => (after (.entry i) (by simp)).trans (h.entries i)
  case nodeQueue => exact (after .nodeQueue (by decide)).trans h.nodeQueue
  case returns => exact (after .returns (by decide)).trans h.returns
  case expired => exact (after (.counter _) (by decide)).trans h.expired
  case linkDown => exact (after (.counter _) (by decide)).trans h.linkDown
  case discarded => exact (after (.counter _) (by decide)).trans h.discarded
  case record => exact (after .fallbackRecord (by decide)).trans h.record
  case alerted => exact (after (.status _) (by decide)).trans h.alerted
  case log => exact (after .log (by decide)).trans h.log
  case adopts => exact h.adopts.of_frames (SameBut.refl [] s) after (by decide)

/-- A fallback entry changes what its steps do, and its notice the sender and the slot, which are among these (R160). -/
theorem frame_enterFallback (law : QueueLaw s) (cause : FallbackCause) :
    SameBut fallbackParts s (s.enterFallback cause) :=
  ((frame_fallbackSteps law cause).trans (frame_enterFallback_steps cause s)).mono (by decide)

/-- The notice condition is evaluated when the entry is complete, with the sender as it was before (R117, R160). -/
theorem enterFallback_noticeEvaluated {o : OpenSession} (law : QueueLaw s) (opened : s.session.current = some o)
    (cause : FallbackCause) : NoticeEvaluated o.owner
      { s.enterFallback cause with notice := s.notice, sPort := s.sPort } (s.enterFallback cause) := by
  have kept : (s.fallbackSteps cause).session.current = s.session.current :=
    frame_fallbackSteps law cause .session (by decide)
  have sending : (s.fallbackSteps cause).sPort.sending = s.sPort.sending := State.fallbackSteps_sending law cause
  have evaluated : NoticeEvaluated o.owner (State.setSender s.notice s.sPort.slot (s.fallbackSteps cause))
      (s.enterFallback cause) := noticeEvaluated_evalNotice (kept.trans opened)
  refine evaluated.from_alike rfl rfl ?_ ?_ ?_ fun number => ?_
  · exact (State.evalNotice_events _).symm
  · exact (State.evalNotice_now _).symm
  · exact iff_of_eq (congrArg (· = some Sending.notice) sending)
  · simp [noticeNow, State.enterFallback]

end

/-- A new command that leaves a new state, with the Event Unit as its execution left it (R137). -/
theorem command_answers_events {h : CommandHeader} {o : OpenSession} {s : State} {body : State → Answered}
    {result : ResultCode} {payload : List Byte} {changed : List Part} {u : State}
    (new : NewCommand h o s) (c : CommandName) (args : List Byte) (form : args.length = c.argBytes)
    (answer : body (s.accept .station) = u.answer result payload) (frame : SameBut changed (s.accept .station) u)
    (others : ∀ p ∈ [.counter (.framesAccepted .station), .link .station, .replies, .now], p ∉ changed) :
    ∃ t, command c h args body s = .next t ∧ Answers c.code h o result payload changed s t
      ∧ SameBut [.session, .liveness, .replies] u t ∧ t.events = u.events := by
  obtain ⟨t, taken, answers, after⟩ := command_answers_state new c args form answer frame others
  obtain ⟨t', taken', -, events, -⟩ := command_answers_effect new c args form answer frame others
  obtain rfl := Host.Outcome.next.inj (taken.symm.trans taken')
  exact ⟨t, taken, answers, after, events⟩

/-- Settles O46: in GOVERNED the reply is made on the state that `State.enterFallback` leaves, and neither accepting the
frame nor answering it touches what the entry writes. -/
theorem enterFallbackCommand : Obligations.EnterFallbackCommand := by
  intro h o s new law
  refine ⟨fun mode => ?entered, fun mode => ?inFallback⟩ <;> rw [exec_enterFallback]
  case entered =>
    have accepted : QueueLaw (s.accept .station) :=
      law.of_same (sameQueues_accept s .station) (by rw [State.accept_control]) (by rw [State.accept_commit])
    have opened : (s.accept .station).session.current = some o := by rw [State.accept_session]; exact new.opened
    have fellBack := fellBack_of_frame accepted .command (frame_enterFallback_steps .command (s.accept .station))
    have evaluated := enterFallback_noticeEvaluated accepted opened .command
    obtain ⟨t, taken, answers, after, events⟩ := command_answers_events new .enterFallback [] rfl
      (enterFallbackBody_governed (by rwa [State.accept_control])) (frame_enterFallback accepted .command) (by decide)
    have record : t.control.fallbackRecord = _ := after .fallbackRecord (by decide)
    rw [State.accept_holdQueue, State.accept_commit, ← record] at answers
    refine ⟨t, taken, (fellBack.answered after).from_accept new.reaches.reaches, answers, ?_⟩
    have now : t.now = _ := after .now (by decide)
    have holds : t.holdQueue = _ := after .holdQueue (by decide)
    have log : t.log = _ := after .log (by decide)
    have commit : t.commit = _ := after .commit (by decide)
    have modeNow : t.control.mode = _ := after .mode (by decide)
    refine (evaluated.of_eq (after .noticeSender (by decide)) (after .slot (by decide))).from_alike ?_ ?_ events.symm
      now.symm ?_ fun number => ?_
    · exact State.accept_notice _ _
    · exact State.accept_sPort_slot _ _
    · exact iff_of_eq (congrArg (· = some Sending.notice) (State.accept_sPort_sending _ _))
    · simp only [noticeNow, events, holds, log, commit, modeNow]
  case inFallback => exact command_answers new rfl (enterFallbackBody_fallback (by rwa [State.accept_control]))

end Sys2Proof.Machine
end

section
/-! PROOFS. LIST_HOLDS, references that name no waiting request, and the commands that set one thing. -/
namespace Sys2Proof.Machine

/-! ### References that name no waiting request (R53) -/

section
variable {h : CommandHeader} {o : OpenSession} {s : State} (b g : Byte)

/-- An index above 31 names no entry. -/
theorem onHeld_outside (outside : 32 ≤ b.toNat) (resolve : HoldRef → Txn → State → Answered) :
    onHeld [b, g] resolve s = s.answer .badField [1, 0] := by
  have none : readHoldRef [b, g] = none := by
    rw [readHoldRef, field_one, dif_neg (by simp only [Config.entries]; omega)]
  simp only [onHeld, none]
  rfl

/-- A reference whose generation is not the entry's, or whose entry waits in no hold, is answered NOT_HELD. -/
theorem onHeld_stale {i : EntryIndex} (index : i.val = b.toNat)
    (stale : ¬ (s.generation i = g ∧ ∃ x hold, s.entryState i = .held x hold))
    (resolve : HoldRef → Txn → State → Answered) :
    onHeld [b, g] resolve s = s.answer .notHeld [b, g, (s.entryState i).code, s.generation i] := by
  have byte : b = BitVec.ofNat 8 i.val := by rw [index]; simp
  have notHeld : s.heldBy ⟨i, g⟩ = none := by
    cases entry : s.entryState i with
    | held x hold =>
      have other : s.generation i ≠ g := fun same => stale ⟨same, x, hold, entry⟩
      simp only [State.heldBy, entry, if_neg other]
    | free | queued | inFlight | returning => simp only [State.heldBy, entry]
  subst byte
  simp only [onHeld, readHoldRef_named, notHeld]
  rfl

/-- RELEASE and DENY answer such a reference alike (R53). -/
theorem onHeld_command (new : NewCommand h o s) (c : CommandName) (form : 2 = c.argBytes)
    (resolve : HoldRef → Txn → State → Answered) :
    (∀ i : EntryIndex, i.val = b.toNat → ¬ (s.generation i = g ∧ ∃ x hold, s.entryState i = .held x hold) →
      ∃ t, command c h [b, g] (onHeld [b, g] resolve) s = .next t
        ∧ Answers c.code h o .notHeld [b, g, (s.entryState i).code, s.generation i] [] s t)
    ∧ (32 ≤ b.toNat → ∃ t, command c h [b, g] (onHeld [b, g] resolve) s = .next t
        ∧ Answers c.code h o .badField [1, 0] [] s t) := by
  refine ⟨fun i index stale => ?_, fun outside => command_answers new form (onHeld_outside b g outside resolve)⟩
  have answer := onHeld_stale b g (s := s.accept .station) index (by simpa using stale) resolve
  rw [State.accept_entryState, State.accept_generation] at answer
  exact command_answers new form answer

end

/-- Settles O26: both commands make the field check and the generation test first. -/
theorem staleReferenceIsNotHeld : Obligations.StaleReferenceIsNotHeld := by
  rintro h o b g s new code row (⟨rfl, rfl⟩ | ⟨rfl, rfl⟩)
  · exact onHeld_command b g new .release rfl releaseBody
  · exact onHeld_command b g new .deny rfl denyBody

/-! ### LIST_HOLDS (R51, R52) -/

section
variable {s : State}

theorem bigEndian_one (n : Nat) : bigEndian 1 n = [BitVec.ofNat 8 n] := by simp

theorem field_second (a b : Byte) (rest : List Byte) : field (a :: b :: rest) 1 1 = b.toNat := field_one b rest

/-- A held entry's item is its 24 bytes (R52, R189). -/
theorem State.heldItem?_held {r : HoldRef} (held : ∃ x hold, s.entryState r.index = .held x hold) :
    s.heldItem? r = some (heldItem s r) := by
  obtain ⟨x, hold, entry⟩ := held
  simp only [State.heldItem?, heldItem, entry, State.holdItem, State.remaining, bytesOf16_eq, bigEndian_one]
  cases x.request.body <;> simp [requestDataLength, requestData, padded]

theorem State.heldItems_eq {refs : List HoldRef} (held : ∀ r ∈ refs, ∃ x hold, s.entryState r.index = .held x hold) :
    refs.filterMap s.heldItem? = refs.map (heldItem s) := by
  induction refs with
  | nil => rfl
  | cons r refs ih =>
    obtain ⟨first, rest⟩ := List.forall_mem_cons.1 held
    rw [List.filterMap_cons_some (State.heldItem?_held first), List.map_cons, ih rest]

theorem heldItem_accept (p : PortName) (r : HoldRef) : heldItem (s.accept p) r = heldItem s r := by
  simp only [heldItem, State.accept_entryState, State.accept_now]

section
variable {first count : Byte}

theorem listHoldsBody_first (outside : 15 < first.toNat) :
    listHoldsBody [first, count] s = s.answer .badField [1, 0] := by
  simp only [listHoldsBody, field_one, if_pos outside]
  rfl

theorem listHoldsBody_count (inside : first.toNat ≤ 15) (outside : count.toNat = 0 ∨ 8 < count.toNat) :
    listHoldsBody [first, count] s = s.answer .badField [2, 0] := by
  simp only [listHoldsBody, field_one, field_second, if_neg (Nat.not_lt.2 inside), if_pos outside]
  rfl

theorem listHoldsBody_listed (inside : first.toNat ≤ 15) (some : 1 ≤ count.toNat) (few : count.toNat ≤ 8)
    {refs : List HoldRef} (listed : refs = (s.holdQueue.drop first.toNat).take count.toNat)
    (held : ∀ r ∈ refs, ∃ x hold, s.entryState r.index = .held x hold) :
    listHoldsBody [first, count] s = s.answer .done
      ([BitVec.ofNat 8 s.holdQueue.length, first, BitVec.ofNat 8 refs.length] ++ refs.flatMap (heldItem s)) := by
  have valid : ¬ (count.toNat = 0 ∨ 8 < count.toNat) := by omega
  simp only [listHoldsBody, field_one, field_second, if_neg (Nat.not_lt.2 inside), if_neg valid, State.heldItems,
    ← listed, State.heldItems_eq held, bigEndian_one, List.length_map, List.flatMap_def, BitVec.ofNat_toNat,
    BitVec.setWidth_eq]
  rfl

end
end

theorem exec_listHolds (h : CommandHeader) (args : List Byte) (s : State) :
    exec (.listHolds h args) s = command .listHolds h args (listHoldsBody args) s := rfl

/-- Settles O28, by the two field checks: each waiting entry has its item, as it is held. -/
theorem listHoldsReportsTheQueue : Obligations.ListHoldsReportsTheQueue := by
  intro h o first count s new
  rw [exec_listHolds]
  refine ⟨fun outside => ?first, fun inside outside => ?count, fun refs inside some few listed held => ?listed⟩
  case first => exact command_answers new rfl (listHoldsBody_first outside)
  case count => exact command_answers new rfl (listHoldsBody_count inside outside)
  case listed =>
    have answer := listHoldsBody_listed (s := s.accept .station) inside some few (refs := refs)
      (by rwa [State.accept_holdQueue]) (by simpa using held)
    simp only [State.accept_holdQueue, funext (heldItem_accept .station)] at answer
    exact command_answers new rfl answer

/-! ### The commands that set one thing (R69, R70, R105, R124, R155) -/

section
variable {h : CommandHeader} {o : OpenSession} {s : State}

/-- A new command that sets one thing and is answered DONE. -/
theorem command_sets {body : State → Answered} {payload : List Byte} {p : Part} {u : State} (new : NewCommand h o s)
    (c : CommandName) (args : List Byte) (form : args.length = c.argBytes)
    (answer : body (s.accept .station) = u.answer .done payload) (frame : SameBut [p] (s.accept .station) u)
    (other : p ∉ [.counter (.framesAccepted .station), .link .station, .replies, .now]) :
    ∃ t, command c h args body s = .next t ∧ Answers c.code h o .done payload [p] s t
      ∧ SameBut [.session, .liveness, .replies] u t := by
  refine command_answers_state new c args form answer frame fun q listed same => other ?_
  rwa [List.mem_singleton.1 same] at listed

end

/-- The Epoch Timer is replaced. -/
def State.setEpoch (e : EpochTimer) (s : State) : State := { s with epoch := e }

/-- The retry interval is replaced. -/
def State.setInterval (n : Nat) (s : State) : State := { s with notice := { s.notice with interval := n } }

/-- The liveness period is replaced. -/
def State.setPeriod (n : Nat) (s : State) : State := { s with control := { s.control with period := n } }

/-- The Capture Log is replaced. -/
def State.setCaptureLog (l : CaptureLog) (s : State) : State := { s with log := l }

section
variable (s : State)

theorem frame_setEpoch (e : EpochTimer) : SameBut [.epoch] s (s.setEpoch e) := by
  intro p hp; cases p <;> simp_all [Part.Kept, State.setEpoch, State.count]
  case link p => cases p <;> rfl

theorem frame_setInterval (n : Nat) : SameBut [.noticeSender] s (s.setInterval n) := by
  intro p hp; cases p <;> simp_all [Part.Kept, State.setInterval, State.count]
  case link p => cases p <;> rfl

theorem frame_setPeriod (n : Nat) : SameBut [.period] s (s.setPeriod n) := by
  intro p hp; cases p <;> simp_all [Part.Kept, State.setPeriod, State.count]
  case link p => cases p <;> rfl

theorem frame_setCaptureLog (l : CaptureLog) : SameBut [.log] s (s.setCaptureLog l) := by
  intro p hp; cases p <;> simp_all [Part.Kept, State.setCaptureLog, State.count]
  case link p => cases p <;> rfl

end

/-! ### Enumerated arguments -/

theorem readSyncMode_code (m : SyncMode) : readSyncMode m.code = some m := by cases m <;> rfl

theorem readLogMode_code (m : LogMode) : readLogMode m.code = some m := by cases m <;> rfl

theorem readFlag_boolCode (b : Bool) : readFlag (boolCode b) = some b := by cases b <;> rfl

theorem readSyncMode_none {b : Byte} (outside : 2 < b.toNat) : readSyncMode b = none := by
  have zero : b ≠ 0 := fun same => by simp [same] at outside
  have one : b ≠ 1 := fun same => by simp [same] at outside
  have two : b ≠ 2 := fun same => by simp [same] at outside
  simp only [readSyncMode, if_neg zero, if_neg one, if_neg two]

theorem readLogMode_isNone (b : Byte) : (readLogMode b).isNone = decide (1 < b.toNat) := by
  unfold readLogMode
  split
  · simp [*]
  split
  · simp [*]
  · symm
    simp only [Option.isNone_none, decide_eq_true_eq]
    bv_omega

theorem readFlag_isNone (b : Byte) : (readFlag b).isNone = decide (1 < b.toNat) := by
  unfold readFlag
  split
  · simp [*]
  split
  · simp [*]
  · symm
    simp only [Option.isNone_none, decide_eq_true_eq]
    bv_omega

end Sys2Proof.Machine
end

section
/-! PROOFS. The commands that set one thing after checking it. -/
namespace Sys2Proof.Machine

/-! ### Numbers in arguments written back -/

/-- The bytes that spell a number are those it is written in. -/
theorem bigEndian_spelled (bytes : List Byte) : bigEndian bytes.length (spelled bytes) = bytes := by
  induction bytes using list_induction_last with
  | nil => rfl
  | last bytes b ih =>
    have low : (spelled bytes * 256 + b.toNat) / 256 = spelled bytes := by have := b.isLt; omega
    have byte : BitVec.ofNat 8 (spelled bytes * 256 + b.toNat) = b := by
      apply BitVec.eq_of_toNat_eq
      have := b.isLt
      simp only [BitVec.toNat_ofNat]
      omega
    rw [List.length_append, List.length_singleton, spelled_append, bigEndian_append, low, byte, ih]

theorem bigEndian_two (hi lo : Byte) : bigEndian 2 (hi.toNat * 256 + lo.toNat) = [hi, lo] := by
  simpa [spelled] using bigEndian_spelled [hi, lo]

theorem field_three (a b c : Byte) : field [a, b, c] 0 3 = a.toNat * 65536 + b.toNat * 256 + c.toNat := by
  simp [field, spelled]
  omega

theorem bigEndian_three (a b c : Byte) :
    bigEndian 3 (a.toNat * 65536 + b.toNat * 256 + c.toNat) = [a, b, c] := by
  rw [← field_three]
  exact bigEndian_spelled [a, b, c]

theorem ofNat_toNat_byte (b : Byte) : BitVec.ofNat 8 b.toNat = b := by simp

/-! ### The bodies of the commands -/

section
variable (s : State)

theorem setSyncBody_valid (m : SyncMode) :
    setSyncBody [m.code] s = (s.setEpoch { s.epoch with sync := m }).answer .done [m.code] := by
  have read : readSyncMode (byteAt [m.code] 0) = some m := readSyncMode_code m
  simp only [setSyncBody, read]
  rfl

theorem setSyncBody_invalid {b : Byte} (outside : 2 < b.toNat) : setSyncBody [b] s = s.answer .badField [1, 0] := by
  have read : readSyncMode (byteAt [b] 0) = none := readSyncMode_none outside
  simp only [setSyncBody, read]
  rfl

theorem setNoticeRetryBody_valid {b : Byte} (valid : 2 ≤ b.toNat) :
    setNoticeRetryBody [b] s = (s.setInterval b.toNat).answer .done [b] := by
  simp only [setNoticeRetryBody, field_one, if_neg (Nat.not_lt.2 valid), bigEndian_one, ofNat_toNat_byte]
  rfl

theorem setNoticeRetryBody_invalid {b : Byte} (invalid : b.toNat < 2) :
    setNoticeRetryBody [b] s = s.answer .badField [1, 0] := by
  simp only [setNoticeRetryBody, field_one, if_pos invalid]
  rfl

theorem setLivenessBody_valid {b : Byte} (valid : b ≠ 0) :
    setLivenessBody [b] s = (s.setPeriod b.toNat).answer .done [b, s.control.liveness.code] := by
  have notZero : b.toNat ≠ 0 := fun zero => valid (BitVec.eq_of_toNat_eq zero)
  simp only [setLivenessBody, field_one, if_neg notZero, bigEndian_one, ofNat_toNat_byte]
  rfl

theorem setLivenessBody_invalid : setLivenessBody [0] s = s.answer .badField [1, 0] := rfl

section
variable {a b c : Byte} {offset : Nat} (spells : offset = a.toNat * 65536 + b.toNat * 256 + c.toNat)
include spells

theorem alignEpochBody_valid (below : offset < s.epochLength) :
    alignEpochBody [a, b, c] s = (s.setEpoch { s.epoch with offset := offset }).answer .done
      (bigEndian 4 s.epoch.number.toNat ++ [a, b, c]) := by
  subst spells
  simp only [alignEpochBody, field_three, if_neg (Nat.not_le.2 below), bigEndian_three]
  rfl

theorem alignEpochBody_invalid (reaches : s.epochLength ≤ offset) :
    alignEpochBody [a, b, c] s = s.answer .badField [1, 0] := by
  subst spells
  simp only [alignEpochBody, field_three, if_pos reaches]
  rfl

end

/-! ### SET_LOG (R105) -/

theorem field_threshold (m hi lo a b : Byte) : field [m, hi, lo, a, b] 1 2 = hi.toNat * 256 + lo.toNat := by
  simp [field, spelled]

/-- The four checks of SET_LOG, in their order. -/
def logChecks (m a b : Byte) (threshold : Nat) : List Bool :=
  [decide (1 < m.toNat), decide (threshold = 0 ∨ 256 < threshold), decide (1 < a.toNat), decide (1 < b.toNat)]

/-- The Capture Log with the four settings replaced. -/
def CaptureLog.withSettings (l : CaptureLog) (mode : LogMode) (threshold : Nat) (refusals strays : Bool) : CaptureLog :=
  { l with mode := mode, threshold := threshold, refusalLogging := refusals, strayLogging := strays }

theorem setLogBody_invalid {m hi lo a b : Byte} {place : Nat}
    (fails : firstFailing (logChecks m a b (hi.toNat * 256 + lo.toNat)) = some place) :
    setLogBody [m, hi, lo, a, b] s = s.badField place := by
  have checks : firstFailing
      [(readLogMode m).isNone, decide (hi.toNat * 256 + lo.toNat = 0 ∨ 256 < hi.toNat * 256 + lo.toNat),
      (readFlag a).isNone, (readFlag b).isNone] = some place := by
    rw [readLogMode_isNone, readFlag_isNone, readFlag_isNone]
    exact fails
  have bytes : byteAt [m, hi, lo, a, b] 0 = m ∧ byteAt [m, hi, lo, a, b] 3 = a ∧ byteAt [m, hi, lo, a, b] 4 = b :=
    ⟨rfl, rfl, rfl⟩
  simp only [setLogBody, field_threshold, bytes, checks]

theorem setLogBody_valid (mode : LogMode) {hi lo : Byte} (refusals strays : Bool)
    (some : 1 ≤ hi.toNat * 256 + lo.toNat) (few : hi.toNat * 256 + lo.toNat ≤ 256) :
    setLogBody [mode.code, hi, lo, boolCode refusals, boolCode strays] s
      = (s.setCaptureLog (s.log.withSettings mode (hi.toNat * 256 + lo.toNat) refusals strays)).answer .done
        ([mode.code, hi, lo, boolCode refusals, boolCode strays]
          ++ bigEndian 2 s.log.records.length ++ bigEndian 4 s.log.lostCount.toNat) := by
  have valid : decide (hi.toNat * 256 + lo.toNat = 0 ∨ 256 < hi.toNat * 256 + lo.toNat) = false := by
    rw [decide_eq_false_iff_not]; omega
  have bytes : byteAt [mode.code, hi, lo, boolCode refusals, boolCode strays] 0 = mode.code
      ∧ byteAt [mode.code, hi, lo, boolCode refusals, boolCode strays] 3 = boolCode refusals
      ∧ byteAt [mode.code, hi, lo, boolCode refusals, boolCode strays] 4 = boolCode strays := ⟨rfl, rfl, rfl⟩
  have passes : firstFailing [false, false, false, false] = none := rfl
  simp only [setLogBody, field_threshold, bytes, readLogMode_code, readFlag_boolCode, Option.isNone_some, valid, passes,
    Option.getD_some, State.logPayload, bigEndian_two]
  rfl

end

/-- The first failing check of SET_LOG, by the place R105 gives it. -/
theorem firstFailing_logChecks {m a b place : Byte} {threshold : Nat}
    (fails : (1 < m.toNat ∧ place = 1)
      ∨ (m.toNat ≤ 1 ∧ (threshold = 0 ∨ 256 < threshold) ∧ place = 2)
      ∨ (m.toNat ≤ 1 ∧ 1 ≤ threshold ∧ threshold ≤ 256 ∧ 1 < a.toNat ∧ place = 3)
      ∨ (m.toNat ≤ 1 ∧ 1 ≤ threshold ∧ threshold ≤ 256 ∧ a.toNat ≤ 1 ∧ 1 < b.toNat ∧ place = 4)) :
    firstFailing (logChecks m a b threshold) = some place.toNat := by
  rcases fails with ⟨mode, rfl⟩ | ⟨mode, wrong, rfl⟩ | ⟨mode, low, high, flag, rfl⟩ | ⟨mode, low, high, flag, last, rfl⟩
  · simp [logChecks, firstFailing, List.findIdx?_cons, mode]
  · simp [logChecks, firstFailing, List.findIdx?_cons, Nat.not_lt.2 mode, wrong]
  · have valid : ¬ (threshold = 0 ∨ 256 < threshold) := by omega
    simp [logChecks, firstFailing, List.findIdx?_cons, Nat.not_lt.2 mode, valid, flag]
  · have valid : ¬ (threshold = 0 ∨ 256 < threshold) := by omega
    simp [logChecks, firstFailing, List.findIdx?_cons, Nat.not_lt.2 mode, valid, Nat.not_lt.2 flag, last]

section
variable (h : CommandHeader) (args : List Byte) (s : State)

theorem exec_setSync : exec (.setSync h args) s = command .setSync h args (setSyncBody args) s := rfl

theorem exec_setNoticeRetry :
    exec (.setNoticeRetry h args) s = command .setNoticeRetry h args (setNoticeRetryBody args) s := rfl

theorem exec_setLiveness : exec (.setLiveness h args) s = command .setLiveness h args (setLivenessBody args) s := rfl

theorem exec_alignEpoch : exec (.alignEpoch h args) s = command .alignEpoch h args (alignEpochBody args) s := rfl

theorem exec_setLog : exec (.setLog h args) s = command .setLog h args (setLogBody args) s := rfl

end

/-- Settles O31: each command's checks come first, and what it then sets is the one part its answer leaves changed. -/
theorem settingCommands : Obligations.SettingCommands := by
  intro h o s new
  refine ⟨fun m => ?sync, fun b outside => ?badSync, fun b valid => ?retry, fun b invalid => ?badRetry,
    fun b valid => ?liveness, ?badLiveness, fun a b c => ⟨fun below => ?align, fun reaches => ?badAlign⟩,
    fun mode hi lo refusals strays => ?log, fun m hi lo a b place => ?badLog⟩
  case sync =>
    rw [exec_setSync]
    obtain ⟨t, taken, answers, after⟩ := command_sets new .setSync [m.code] rfl (setSyncBody_valid _ m)
      (frame_setEpoch _ _) (by decide)
    exact ⟨t, taken, answers, (after .epoch (by decide)).trans (by simp [State.setEpoch])⟩
  case badSync =>
    rw [exec_setSync]
    exact command_answers new rfl (setSyncBody_invalid _ outside)
  case retry =>
    rw [exec_setNoticeRetry]
    obtain ⟨t, taken, answers, after⟩ := command_sets new .setNoticeRetry [b] rfl (setNoticeRetryBody_valid _ valid)
      (frame_setInterval _ _) (by decide)
    exact ⟨t, taken, answers, (after .noticeSender (by decide)).trans (by simp [State.setInterval])⟩
  case badRetry =>
    rw [exec_setNoticeRetry]
    exact command_answers new rfl (setNoticeRetryBody_invalid _ invalid)
  case liveness =>
    rw [exec_setLiveness]
    obtain ⟨t, taken, answers, after⟩ := command_sets new .setLiveness [b] rfl (setLivenessBody_valid _ valid)
      (frame_setPeriod _ _) (by decide)
    rw [State.accept_control] at answers
    exact ⟨t, taken, answers, after .period (by decide)⟩
  case badLiveness =>
    rw [exec_setLiveness]
    exact command_answers new rfl (setLivenessBody_invalid _)
  case align =>
    rw [exec_alignEpoch]
    obtain ⟨t, taken, answers, after⟩ := command_sets new .alignEpoch [a, b, c] rfl
      (alignEpochBody_valid _ rfl (by rwa [State.accept_epochLength])) (frame_setEpoch _ _) (by decide)
    rw [State.accept_epoch] at answers
    exact ⟨t, taken, answers, (after .epoch (by decide)).trans (by simp [State.setEpoch])⟩
  case badAlign =>
    rw [exec_alignEpoch]
    exact command_answers new rfl (alignEpochBody_invalid _ rfl (by rwa [State.accept_epochLength]))
  case log =>
    intro threshold some few
    rw [exec_setLog]
    obtain ⟨t, taken, answers, after⟩ := command_sets new .setLog
      [mode.code, hi, lo, boolCode refusals, boolCode strays] rfl (setLogBody_valid _ mode refusals strays some few)
      (frame_setCaptureLog _ _) (by decide)
    rw [State.accept_log] at answers
    exact ⟨t, taken, answers, (after .log (by decide)).trans (by
      simp [State.setCaptureLog, CaptureLog.withSettings, threshold])⟩
  case badLog =>
    intro threshold fails
    rw [exec_setLog]
    have answer := setLogBody_invalid (s.accept .station) (hi := hi) (lo := lo) (firstFailing_logChecks fails)
    rw [State.badField, bigEndian_one, bigEndian_one, ofNat_toNat_byte] at answer
    exact command_answers new rfl answer

end Sys2Proof.Machine
end

section
/-! PROOFS. The commands that only read. -/
namespace Sys2Proof.Machine

section
variable (h : CommandHeader) (args : List Byte) (s : State)

theorem exec_keepalive : exec (.keepalive h args) s = command .keepalive h args (fun s => s.answer .done []) s := rfl

theorem exec_getStatus :
    exec (.getStatus h args) s = command .getStatus h args (fun s => s.answer .done s.statusPayload) s := rfl

theorem exec_getTime :
    exec (.getTime h args) s = command .getTime h args (fun s => s.answer .done s.timePayload) s := rfl

theorem exec_readRule : exec (.readRule h args) s = command .readRule h args (readRuleBody args) s := rfl

theorem exec_readBankParams :
    exec (.readBankParams h args) s = command .readBankParams h args (readBankParamsBody args) s := rfl

theorem exec_readFallback : exec (.readFallback h args) s = command .readFallback h args (readFallbackBody args) s := rfl

end

/-! ### The payloads (R40, R43, R72, R116) -/

section
variable (s : State)

theorem State.alert_code {s : State} (running : s.heldInReset = false) :
    boolCode s.alert = if s.events.status &&& s.events.enable &&& s.events.line = 0 then 0 else 1 := by
  show boolCode s.alert = if s.events.lineSet = 0 then 0 else 1
  by_cases none : s.events.lineSet = 0 <;> simp [State.alert, none, boolCode, running]

theorem State.statusPayload_eq {s : State} {o : OpenSession} (running : s.heldInReset = false)
    (opened : s.session.current = some o) : s.statusPayload
      = bytesOf16 (s.events.status.setWidth 16) ++ bytesOf16 (s.events.enable.setWidth 16)
        ++ bytesOf16 (s.events.line.setWidth 16)
        ++ [if s.events.status &&& s.events.enable &&& s.events.line = 0 then 0 else 1]
        ++ [s.notice.state.code, s.notice.number, BitVec.ofNat 8 s.notice.interval]
        ++ [1] ++ ownerItem (some o) ++ bytesOf16 s.session.number
        ++ [s.control.liveness.code, BitVec.ofNat 8 s.control.period, s.control.mode.code]
        ++ fallbackRecordReport s.control.fallbackRecord ++ (bytesOf16 s.commit.generation ++ [s.commit.state.code])
        ++ [BitVec.ofNat 8 s.holdQueue.length] ++ bigEndian 2 s.log.records.length
        ++ [s.resetCause.cause.code, BitVec.ofNat 8 s.resetCause.discarded] := by
  have sessionByte : sessionStateByte (some o) = 1 := rfl
  simp only [State.statusPayload, eventSetBytes_eq, State.alert_code running, sessionByte, State.ownerPayload_eq, opened,
    fallbackRecordBytes_eq, bytesOf16_eq, bigEndian_one, List.append_assoc, List.cons_append, List.nil_append]

theorem State.commitPayload_eq : s.commitPayload = bytesOf16 s.commit.generation ++ [s.commit.state.code] := by
  rw [State.commitPayload, bytesOf16_eq]

theorem readBankName_code (b : BankName) : readBankName b.code = some b := by cases b <;> rfl

theorem readBankName_none {b : Byte} (outside : 1 < b.toNat) : readBankName b = none := by
  have zero : b ≠ 0 := fun same => by simp [same] at outside
  have one : b ≠ 1 := fun same => by simp [same] at outside
  simp only [readBankName, if_neg zero, if_neg one]

theorem readBankName_some {b : Byte} (inside : b.toNat ≤ 1) : ∃ name, readBankName b = some name := by
  cases read : readBankName b with
  | some name => exact ⟨name, rfl⟩
  | none =>
    have apart : ¬ b = 0 ∧ ¬ b = 1 := by unfold readBankName at read; grind
    obtain ⟨zero, one⟩ := apart
    exact absurd inside (by bv_omega)

/-- A bank is the one its name means. -/
theorem State.bank_eq (b : BankName) : s.bank b = if b = .active then s.active else s.shadow := by
  cases b <;> rfl

theorem toNat_ofNat_byte {n : Nat} (small : n < 256) : (BitVec.ofNat 8 n).toNat = n := by
  rw [BitVec.toNat_ofNat, Nat.mod_eq_of_lt small]

theorem readRuleBody_valid (b : BankName) (n : Fin Config.bankSlots) :
    readRuleBody [b.code, BitVec.ofNat 8 n.val] s = s.answer .done ([b.code, BitVec.ofNat 8 n.val]
      ++ slotBytes ((if b = .active then s.active else s.shadow).slots[n])
      ++ (bytesOf16 s.commit.generation ++ [s.commit.state.code])) := by
  have name : readBankName (byteAt [b.code, BitVec.ofNat 8 n.val] 0) = some b := readBankName_code b
  have slot : field [b.code, BitVec.ofNat 8 n.val] 1 1 = n.val := by
    rw [field_second, toNat_ofNat_byte (by have := n.isLt; simp only [Config.bankSlots] at this; omega)]
  simp only [readRuleBody, name, slot, dif_pos n.isLt, bigEndian_one, State.commitPayload_eq, ← State.bank_eq]
  rfl

theorem readRuleBody_bank {b n : Byte} (outside : 1 < b.toNat) : readRuleBody [b, n] s = s.answer .badField [1, 0] := by
  have name : readBankName (byteAt [b, n] 0) = none := readBankName_none outside
  simp only [readRuleBody, name]
  rfl

theorem readRuleBody_slot {b n : Byte} (inside : b.toNat ≤ 1) (outside : 127 < n.toNat) :
    readRuleBody [b, n] s = s.answer .badField [2, 0] := by
  obtain ⟨name, known⟩ := readBankName_some inside
  have read : readBankName (byteAt [b, n] 0) = some name := known
  have noSlot : ¬ n.toNat < Config.bankSlots := by simp only [Config.bankSlots]; omega
  simp only [readRuleBody, read, field_second, dif_neg noSlot]
  rfl

theorem readBankParamsBody_valid (b : BankName) : readBankParamsBody [b.code] s
    = s.answer .done (paramsBytes (if b = .active then s.active else s.shadow).params
      ++ (bytesOf16 s.commit.generation ++ [s.commit.state.code])) := by
  have name : readBankName (byteAt [b.code] 0) = some b := readBankName_code b
  simp only [readBankParamsBody, name, State.commitPayload_eq, ← State.bank_eq]

theorem readBankParamsBody_invalid {b : Byte} (outside : 1 < b.toNat) :
    readBankParamsBody [b] s = s.answer .badField [1, 0] := by
  have name : readBankName (byteAt [b] 0) = none := readBankName_none outside
  simp only [readBankParamsBody, name]
  rfl

/-- A bank's parameters in the reply, meter by meter (R40). -/
theorem paramsBytes_eq (p : BankParams) : paramsBytes p
    = [p.missAction.code, boolCode p.missLogging] ++ bigEndian 1 p.responseTimeout ++ bigEndian 3 p.epochLength
      ++ ((List.finRange Config.meters).flatMap fun m => bytesOf16 p.meters[m].budget ++ [p.meters[m].exceed.code]) := by
  have meters : p.meters.toList = (List.finRange Config.meters).map fun m => p.meters[m] := by
    refine List.ext_getElem (by simp) fun n _ _ => ?_
    simp
  simp only [paramsBytes, meters, List.flatMap_map, bytesOf16_eq]

theorem readFallbackBody_valid (n : Fin Config.fallbackSlots) : readFallbackBody [BitVec.ofNat 8 n.val] s
    = s.answer .done ([s.fallback.missAction.code] ++ bigEndian 1 s.fallback.responseTimeout ++ [BitVec.ofNat 8 n.val]
      ++ slotBytes (s.fallback.slots[n].map FallbackRule.toRule) ++ [s.control.mode.code]) := by
  have slot : field [BitVec.ofNat 8 n.val] 0 1 = n.val := by
    rw [field_one, toNat_ofNat_byte (by have := n.isLt; simp only [Config.fallbackSlots] at this; omega)]
  simp only [readFallbackBody, slot, dif_pos n.isLt, bigEndian_one]
  rfl

theorem readFallbackBody_invalid {n : Byte} (outside : 7 < n.toNat) :
    readFallbackBody [n] s = s.answer .badField [1, 0] := by
  have noSlot : ¬ n.toNat < Config.fallbackSlots := by simp only [Config.fallbackSlots]; omega
  simp only [readFallbackBody, field_one, dif_neg noSlot]
  rfl

end

/-- Settles O35: each payload is what the report says of the state that has accepted the frame, which the frame has not
changed. -/
theorem readOnlyCommands : Obligations.ReadOnlyCommands := by
  intro h o s new commitItems
  have running : (s.accept .station).heldInReset = false := by
    rw [State.accept_heldInReset]; exact new.reaches.reaches.running
  have opened : (s.accept .station).session.current = some o := by rw [State.accept_session]; exact new.opened
  refine ⟨?keepalive, ?status, ?time, fun b n => ?rule,
    fun b n => ⟨fun outside => ?badBank, fun inside outside => ?badSlot⟩,
    fun b => ?params, fun b outside => ?badParams, fun n => ?fallback, fun n outside => ?badFallback⟩
  case keepalive =>
    rw [exec_keepalive]
    exact command_answers new rfl rfl
  case status =>
    rw [exec_getStatus]
    have answer := State.statusPayload_eq running opened
    simp only [State.accept_events, State.accept_notice, State.accept_session, State.accept_control, State.accept_commit,
      State.accept_holdQueue, State.accept_log, State.accept_resetCause] at answer
    exact command_answers new rfl (congrArg _ answer)
  case time =>
    rw [exec_getTime]
    have answer : (s.accept .station).timePayload = s.timePayload := by simp [State.timePayload]
    obtain ⟨t, taken, answers⟩ := command_answers (c := .getTime) (args := [])
      (body := fun s => s.answer .done s.timePayload) new rfl (congrArg _ answer)
    rw [State.timePayload] at answers
    refine ⟨t, taken, ?_⟩
    cases capture : s.epoch.capture with
    | none | some c => rw [capture] at answers; exact answers
  case rule =>
    rw [exec_readRule]
    have answer := readRuleBody_valid (s.accept .station) b n
    simp only [State.accept_active, State.accept_shadow, State.accept_commit] at answer
    exact command_answers new rfl answer
  case badBank =>
    rw [exec_readRule]
    exact command_answers new rfl (readRuleBody_bank _ outside)
  case badSlot =>
    rw [exec_readRule]
    exact command_answers new rfl (readRuleBody_slot _ inside outside)
  case params =>
    rw [exec_readBankParams]
    have answer := readBankParamsBody_valid (s.accept .station) b
    simp only [State.accept_active, State.accept_shadow, State.accept_commit, paramsBytes_eq] at answer
    exact command_answers new rfl answer
  case badParams =>
    rw [exec_readBankParams]
    exact command_answers new rfl (readBankParamsBody_invalid _ outside)
  case fallback =>
    rw [exec_readFallback]
    have answer := readFallbackBody_valid (s.accept .station) n
    simp only [State.accept_fallback, State.accept_control] at answer
    obtain ⟨t, taken, answers⟩ := command_answers (c := .readFallback) (args := [BitVec.ofNat 8 n.val])
      (body := readFallbackBody [BitVec.ofNat 8 n.val]) new rfl answer
    refine ⟨t, taken, ?_⟩
    cases slot : s.fallback.slots[n] with
    | none | some r => rw [slot] at answers; exact answers
  case badFallback =>
    rw [exec_readFallback]
    exact command_answers new rfl (readFallbackBody_invalid _ outside)

end Sys2Proof.Machine
end

section
/-! PROOFS. The commands that report and then clear: READ_METERS, READ_LOG and READ_COUNTERS. -/
namespace Sys2Proof.Machine

/-! ### READ_METERS (R77) -/

section
variable (ms : List (Fin Config.meters))

theorem clearExceed_foldl_meters (m : Fin Config.meters) : ∀ s : State, (ms.foldl State.clearExceed s).meters[m]
    = if m ∈ ms then ⟨s.meters[m].consumed, 0⟩ else s.meters[m] := by
  induction ms with
  | nil => intro s; simp
  | cons n ms ih =>
    intro s
    rw [List.foldl_cons, ih]
    by_cases same : m = n
    · subst same
      simp [State.clearExceed, State.setMeter]
    · have apart : n.val ≠ m.val := fun eq => same (Fin.ext eq.symm)
      simp [State.clearExceed, State.setMeter, same, apart]

theorem frame_clearExceed_foldl : ∀ s : State, SameBut (ms.map .meter) s (ms.foldl State.clearExceed s) := by
  induction ms with
  | nil => exact fun s => SameBut.refl _ s
  | cons n ms ih =>
    intro s
    exact ((frame_setMeter n _ s).trans (ih _)).mono (by simp)

end

section
variable (s : State)

theorem State.meterItem_eq : s.meterItem = meterReport s := by
  funext m
  simp only [State.meterItem, meterReport, State.meterSetting, bytesOf16_eq]

theorem meterReport_accept (p : PortName) : meterReport (s.accept p) = meterReport s := by
  funext m
  simp only [meterReport, State.accept_active, State.accept_meters]

/-- The items of a READ_METERS reply before its meters (R77). -/
def State.meterPayload (ms : List (Fin Config.meters)) : List Byte :=
  bigEndian 2 s.commit.generation.toNat ++ bigEndian 4 s.epoch.number.toNat ++ bigEndian 3 s.epoch.offset
    ++ ms.flatMap (meterReport s)

theorem field_first (a : Byte) (rest : List Byte) : field (a :: rest) 0 1 = a.toNat := field_one a rest

theorem readMetersBody_valid {first count : Byte} (clear : Bool) (inside : first.toNat ≤ 15) (some : 1 ≤ count.toNat)
    (few : count.toNat ≤ 6) : readMetersBody [first, count, boolCode clear] s
      = (if clear then (metersNamed first.toNat count.toNat).foldl State.clearExceed s else s).answer .done
        (s.meterPayload (metersNamed first.toNat count.toNat)) := by
  have valid : ¬ (count.toNat = 0 ∨ 6 < count.toNat) := by omega
  have flag : readFlag (byteAt [first, count, boolCode clear] 2) = .some clear := readFlag_boolCode clear
  simp only [readMetersBody, field_first, field_second, if_neg (Nat.not_lt.2 inside), if_neg valid, flag,
    State.meterItem_eq]
  cases clear <;> rfl

theorem readMetersBody_invalid {first count clear place : Byte}
    (fails : (15 < first.toNat ∧ place = 1)
      ∨ (first.toNat ≤ 15 ∧ (count.toNat = 0 ∨ 6 < count.toNat) ∧ place = 2)
      ∨ (first.toNat ≤ 15 ∧ 1 ≤ count.toNat ∧ count.toNat ≤ 6 ∧ 1 < clear.toNat ∧ place = 3)) :
    readMetersBody [first, count, clear] s = s.answer .badField [place, 0] := by
  rcases fails with ⟨outside, rfl⟩ | ⟨inside, wrong, rfl⟩ | ⟨inside, some, few, notFlag, rfl⟩
  · simp only [readMetersBody, field_first, if_pos outside]
    rfl
  · simp only [readMetersBody, field_first, field_second, if_neg (Nat.not_lt.2 inside), if_pos wrong]
    rfl
  · have valid : ¬ (count.toNat = 0 ∨ 6 < count.toNat) := by omega
    have flag : readFlag (byteAt [first, count, clear] 2) = none := by
      rw [← Option.isNone_iff_eq_none, show byteAt [first, count, clear] 2 = clear from rfl, readFlag_isNone]
      exact decide_eq_true notFlag
    simp only [readMetersBody, field_first, field_second, if_neg (Nat.not_lt.2 inside), if_neg valid, flag]
    rfl

/-! ### READ_LOG (R106) -/

theorem readLogBody_valid {n : Byte} (some : 1 ≤ n.toNat) (few : n.toNat ≤ 6) : readLogBody [n] s
    = (s.setCaptureLog { s.log with records := s.log.records.drop n.toNat, lostCount := 0 }).answer .done
      (bigEndian 1 (s.log.records.take n.toNat).length ++ bigEndian 2 (s.log.records.drop n.toNat).length
        ++ bigEndian 4 s.log.lostCount.toNat ++ (s.log.records.take n.toNat).flatMap recordBytes) := by
  have valid : ¬ (n.toNat = 0 ∨ 6 < n.toNat) := by omega
  simp only [readLogBody, field_first, if_neg valid]
  rfl

theorem readLogBody_invalid {n : Byte} (wrong : n.toNat = 0 ∨ 6 < n.toNat) :
    readLogBody [n] s = s.answer .badField [1, 0] := by
  simp only [readLogBody, field_first, if_pos wrong]
  rfl

end

/-! ### The counters in their order (R179) -/

theorem mem_groupCounters (c : Counter) : c ∈ groupCounters .traffic ++ groupCounters .outcomes := by
  cases c with
  | framesAccepted p | checkFailures p | malformed p | wrongKind p => cases p <;> decide
  | refusals cause => cases cause <;> decide
  | requestsAdmitted | refusalsDropped | strays | answersDiscarded | managementOverruns | commitsApplied
    | commitsCancelled | logRecordsLost => decide

theorem index_lt_iff (c : Counter) : c.index.val < 13 ↔ c ∈ groupCounters .traffic := by
  have all : ∀ c ∈ groupCounters .traffic ++ groupCounters .outcomes,
      c.index.val < 13 ↔ c ∈ groupCounters .traffic := by decide
  exact all c (mem_groupCounters c)

theorem mem_outcomes_iff (c : Counter) : c ∈ groupCounters .outcomes ↔ c ∉ groupCounters .traffic := by
  have all : ∀ c ∈ groupCounters .traffic ++ groupCounters .outcomes,
      c ∈ groupCounters .outcomes ↔ c ∉ groupCounters .traffic := by decide
  exact all c (mem_groupCounters c)

theorem counts_toList (s : State) :
    s.counters.counts.toList = (groupCounters .traffic ++ groupCounters .outcomes).map s.count := by
  have order : (groupCounters .traffic ++ groupCounters .outcomes).map Counter.index
      = List.finRange Config.counters := by
    decide
  have counts : s.counters.counts.toList = (List.finRange Config.counters).map fun i => s.counters.counts[i] :=
    List.ext_getElem (by simp) fun n _ _ => by simp
  rw [counts, ← order, List.map_map]
  rfl

theorem groupCounts_eq (s : State) (g : CounterGroup) : s.groupCounts g = (groupCounters g).map s.count := by
  have thirteen : ((groupCounters .traffic).map s.count).length = 13 := by rw [List.length_map]; rfl
  cases g
  case traffic => rw [State.groupCounts, counts_toList, List.map_append, List.take_left' thirteen]
  case outcomes => rw [State.groupCounts, counts_toList, List.map_append, List.drop_left' thirteen]

theorem clearGroup_toList (g : CounterGroup) (cs : Vector Count Config.counters) : (clearGroup g cs).toList
    = if g = .traffic then List.replicate 13 0 ++ cs.toList.drop 13 else cs.toList.take 13 ++ List.replicate 13 0 := by
  cases g <;> rfl

theorem clearGroup_getElem (g : CounterGroup) (cs : Vector Count Config.counters) (c : Counter) :
    (clearGroup g cs)[c.index] = if c ∈ groupCounters g then 0 else cs[c.index] := by
  have inTraffic := index_lt_iff c
  have listed : ∀ v : Vector Count Config.counters, v.toList[c.index.val]? = some v[c.index] := fun v => by simp
  have bound : c.index.val < 26 := c.index.isLt
  have zeros : ∀ k < 13, (List.replicate 13 (0 : Count))[k]? = some 0 := fun k low => by
    rw [List.getElem?_replicate, if_pos low]
  have kept : (cs.toList.take 13).length = 13 := by simp [Config.counters]
  refine Option.some.inj ((listed _).symm.trans ?_)
  rw [clearGroup_toList]
  cases g
  case traffic =>
    rw [if_pos rfl]
    by_cases low : c.index.val < 13
    · rw [if_pos (inTraffic.1 low), List.getElem?_append_left (by rwa [List.length_replicate]), zeros _ low]
    · rw [if_neg (mt inTraffic.2 low), List.getElem?_append_right (by rw [List.length_replicate]; omega),
        List.getElem?_drop, List.length_replicate, Nat.add_sub_cancel' (Nat.not_lt.1 low), listed]
  case outcomes =>
    rw [if_neg (by decide)]
    by_cases low : c.index.val < 13
    · rw [if_neg fun inOutcomes => (mem_outcomes_iff c).1 inOutcomes (inTraffic.1 low),
        List.getElem?_append_left (by rwa [kept]), List.getElem?_take, if_pos low, listed]
    · rw [if_pos ((mem_outcomes_iff c).2 (mt inTraffic.2 low)), List.getElem?_append_right (by omega), kept,
        zeros _ (by omega)]

/-! ### READ_COUNTERS (R180) -/

/-- The Counters are replaced. -/
def State.setCounters (c : CounterSet) (s : State) : State := { s with counters := c }

/-- What READ_COUNTERS itself may change. -/
def counterParts : List Part := .nextGroup :: (groupCounters .traffic ++ groupCounters .outcomes).map .counter

theorem frame_setCounters (c : CounterSet) (s : State) : SameBut counterParts s (s.setCounters c) := by
  intro p kept
  cases p
  case counter d =>
    exact absurd (List.mem_cons_of_mem _ (List.mem_map_of_mem (mem_groupCounters d))) kept
  case nextGroup => exact absurd (List.mem_cons_self ..) kept
  case link p => cases p <;> rfl
  all_goals simp [Part.Kept, State.setCounters]

/-- A counter after READ_COUNTERS (R180 step 2). -/
theorem afterRead_count (s : State) (clear : Bool) (c : Counter) :
    (s.setCounters (s.counters.afterRead clear)).count c
      = if clear ∧ c ∈ groupCounters s.counters.nextGroup then 0 else s.count c := by
  cases clear
  case false => simp [State.setCounters, CounterSet.afterRead, State.count]
  case true =>
    simp only [true_and]
    exact clearGroup_getElem s.counters.nextGroup s.counters.counts c

theorem CounterGroup.other_eq (g : CounterGroup) : g.other = if g = .traffic then .outcomes else .traffic := by
  cases g <;> rfl

section
variable (s : State)

theorem readCountersBody_valid (clear : Bool) : readCountersBody [boolCode clear] s
    = (s.setCounters (s.counters.afterRead clear)).answer .done
      (s.counters.nextGroup.code
        :: (groupCounters s.counters.nextGroup).flatMap fun c => bigEndian 4 (s.count c).toNat) := by
  have flag : readFlag (byteAt [boolCode clear] 0) = some clear := readFlag_boolCode clear
  simp only [readCountersBody, flag, groupCounts_eq, List.flatMap_map]
  rfl

theorem readCountersBody_invalid {b : Byte} (notFlag : 1 < b.toNat) :
    readCountersBody [b] s = s.answer .badField [1, 0] := by
  have flag : readFlag (byteAt [b] 0) = none := by
    rw [← Option.isNone_iff_eq_none, show byteAt [b] 0 = b from rfl, readFlag_isNone]
    exact decide_eq_true notFlag
  simp only [readCountersBody, flag]
  rfl

end

section
variable {h : CommandHeader} {o : OpenSession} {s : State}

/-- READ_COUNTERS of a new command: the group reported holds the command's own frame (R179, R180). -/
theorem readCounters_answered (new : NewCommand h o s) (clear : Bool) (taken : Counter → Count)
    (counted : taken = fun c => if c = .framesAccepted .station then s.count c + 1 else s.count c) (reply : Reply)
    (replied : reply = ⟨h.source, h.tag, 0x4A, h.sequence, .done, s.counters.nextGroup.code
      :: (groupCounters s.counters.nextGroup).flatMap fun c => bigEndian 4 (taken c).toNat⟩) :
    ∃ t, exec (.readCounters h [boolCode clear]) s = .next t
      ∧ t.sPort.replies = s.sPort.replies ++ [reply] ∧ t.link .station = .up none
      ∧ t.session.current = some { o with
          expected := if o.expected = 0xFFFF then 1 else o.expected + 1, last := some ⟨h.sequence, reply⟩ }
      ∧ t.control.liveness = .running (s.now + 100000 * s.control.period)
      ∧ t.counters.nextGroup = (if s.counters.nextGroup = .traffic then .outcomes else .traffic)
      ∧ (∀ c, t.count c = if clear ∧ c ∈ groupCounters s.counters.nextGroup then 0 else taken c)
      ∧ SameBut ([.link .station, .replies, .session, .liveness] ++ counterParts) s t := by
  have counts : (s.accept .station).count = taken := by
    rw [counted]; exact funext fun c => State.accept_count .station c s
  have answer := readCountersBody_valid (s.accept .station) clear
  rw [counts, State.accept_counters_nextGroup] at answer
  have done := command_new new .readCounters [boolCode clear] (readCountersBody [boolCode clear])
  rw [executed, if_pos (show [boolCode clear].length = CommandName.readCounters.argBytes from rfl), answer] at done
  subst replied
  have after := (frame_answerNew CommandName.readCounters.code h o
    (((s.accept .station).setCounters ((s.accept .station).counters.afterRead clear)).answer .done
      (s.counters.nextGroup.code
        :: (groupCounters s.counters.nextGroup).flatMap fun c => bigEndian 4 (taken c).toNat))).trans (frame_settle _)
  refine ⟨_, done, ?replies, ?link, ?session, ?liveness, ?nextGroup, fun c => ?count, ?rest⟩
  case replies => simp [answerNew, State.answer, State.setCounters, replyTo]; rfl
  case link => exact (after (.link .station) (by decide)).trans (by simp [State.answer, State.setCounters, State.link])
  case session => simp [answerNew, nextNumber, replyTo]; exact ⟨rfl, rfl, rfl⟩
  case liveness =>
    simp [answerNew, State.loadLiveness, State.livenessDeadline_eq, State.answer, State.setCounters]
  case nextGroup =>
    rw [← CounterGroup.other_eq, ← State.accept_counters_nextGroup .station]
    exact after .nextGroup (by decide)
  case count =>
    have kept : Part.Kept _ _ (.counter c) := after (.counter c) (by simp)
    rw [Part.Kept] at kept
    refine kept.trans ?_
    have cleared := afterRead_count (s.accept .station) clear c
    rwa [State.accept_counters_nextGroup, counts] at cleared
  case rest =>
    refine (((frame_accept .station s).trans (frame_setCounters _ _)).trans after).mono ?_
    decide

end

section
variable (h : CommandHeader) (args : List Byte) (s : State)

theorem exec_readMeters : exec (.readMeters h args) s = command .readMeters h args (readMetersBody args) s := rfl

theorem exec_readLog : exec (.readLog h args) s = command .readLog h args (readLogBody args) s := rfl

theorem exec_readCounters :
    exec (.readCounters h args) s = command .readCounters h args (readCountersBody args) s := rfl

end

section
variable {h : CommandHeader} {o : OpenSession} {s : State}

/-- READ_METERS of a new command (R77). -/
theorem readMeters_answered (new : NewCommand h o s) {first count : Byte} (clear : Bool) (inside : first.toNat ≤ 15)
    (some : 1 ≤ count.toNat) (few : count.toNat ≤ 6) {ms : List (Fin Config.meters)}
    (named : ms = metersNamed first.toNat count.toNat) :
    ∃ t, exec (.readMeters h [first, count, boolCode clear]) s = .next t
      ∧ Answers 0x40 h o .done (s.meterPayload ms) (ms.map .meter) s t
      ∧ ∀ m ∈ ms, t.meters[m] = if clear then ⟨s.meters[m].consumed, 0⟩ else s.meters[m] := by
  have answer := readMetersBody_valid (s.accept .station) clear inside some few
  have payload : (s.accept .station).meterPayload ms = s.meterPayload ms := by
    simp only [State.meterPayload, State.accept_commit, State.accept_epoch, meterReport_accept]
  rw [← named, payload] at answer
  have frame : SameBut (ms.map .meter) (s.accept .station)
      (if clear then ms.foldl State.clearExceed (s.accept .station) else s.accept .station) := by
    cases clear
    case false => exact (SameBut.refl [] _).mono (by simp)
    case true => exact frame_clearExceed_foldl ms _
  obtain ⟨t, done, answers, after⟩ := command_answers_state new .readMeters [first, count, boolCode clear] rfl answer
    frame (by simp)
  refine ⟨t, done, answers, fun m listed => (after (.meter m) (by simp)).trans ?_⟩
  cases clear
  case false => simp
  case true =>
    rw [if_pos rfl, if_pos rfl, clearExceed_foldl_meters, if_pos listed, State.accept_meters]

/-- READ_LOG of a new command (R106). -/
theorem readLog_answered (new : NewCommand h o s) {n : Byte} (some : 1 ≤ n.toNat) (few : n.toNat ≤ 6) :
    ∃ t, exec (.readLog h [n]) s = .next t
      ∧ Answers 0x48 h o .done (bigEndian 1 (s.log.records.take n.toNat).length
          ++ bigEndian 2 (s.log.records.drop n.toNat).length ++ bigEndian 4 s.log.lostCount.toNat
          ++ (s.log.records.take n.toNat).flatMap recordBytes) [.log] s t
      ∧ t.log = { s.log with records := s.log.records.drop n.toNat, lostCount := 0 } := by
  obtain ⟨t, done, answers, after⟩ := command_sets new .readLog [n] rfl (readLogBody_valid _ some few)
    (frame_setCaptureLog _ _) (by decide)
  rw [State.accept_log] at answers
  exact ⟨t, done, answers, (after .log (by decide)).trans (by simp [State.setCaptureLog])⟩

end

/-- Settles O32: each command's checks come first, and what it clears it has put into its reply. -/
theorem readAndClearCommands : Obligations.ReadAndClearCommands := by
  intro h o s new
  refine ⟨fun first count clear inside some few => ?meters, fun first count clear place fails => ?badMeters,
    fun n some few => ?log, fun n wrong => ?badLog, fun clear => ?counters, fun b notFlag => ?badCounters⟩
  case meters =>
    intro reported ms
    obtain ⟨t, done, answers, meters⟩ := readMeters_answered new clear inside some few (ms := ms) rfl
    exact ⟨t, done, answers, fun m named => meters m (by simpa [ms] using named)⟩
  case badMeters =>
    rw [exec_readMeters]
    exact command_answers new rfl (readMetersBody_invalid _ fails)
  case log =>
    intro drained left
    obtain ⟨t, done, answers, log⟩ := readLog_answered new some few
    exact ⟨t, recordBytes, done, fun r _ => recordBytes_laidOut r, answers, log⟩
  case badLog =>
    rw [exec_readLog]
    exact command_answers new rfl (readLogBody_invalid _ wrong)
  case counters =>
    intro group taken payload reply
    exact readCounters_answered new clear taken rfl reply rfl
  case badCounters =>
    rw [exec_readCounters]
    exact command_answers new rfl (readCountersBody_invalid _ notFlag)

end Sys2Proof.Machine
end

section
/-! PROOFS. The power-on reset, block by block (R21, R44, R153, R154, R181). -/
namespace Sys2Proof.Machine

/-! ### The straps (R153, R154) -/

section
variable {straps : BitVec 6}

theorem straps_eq_zero_iff : straps = 0 ↔ straps.toNat = 0 := by bv_omega

theorem straps_eq_top_iff : straps = 63 ↔ straps.toNat = 63 := by bv_omega

/-- Straps 1 to 62 are the own address. -/
theorem sampled_valid (valid : 1 ≤ straps.toNat ∧ straps.toNat ≤ 62) :
    (sampledAddress straps).toNat = straps.toNat ∧ sampledFault straps = false := by
  have inside : ¬ (straps = 0 ∨ straps = 63) := by rw [straps_eq_zero_iff, straps_eq_top_iff]; omega
  refine ⟨?_, decide_eq_false inside⟩
  rw [sampledAddress, if_neg inside, BitVec.toNat_setWidth]
  omega

/-- Straps 0 and 63 name no address: 62 is taken, with the fault flag. -/
theorem sampled_invalid (invalid : straps.toNat = 0 ∨ straps.toNat = 63) :
    sampledAddress straps = 62 ∧ sampledFault straps = true := by
  rw [← straps_eq_zero_iff, ← straps_eq_top_iff] at invalid
  exact ⟨if_pos invalid, decide_eq_true invalid⟩

end

theorem startMode_eq (start : StartStrap) : startMode start = if start = .opened then .governed else .fallback := by
  cases start <;> rfl

/-! ### The blocks -/

theorem resetParams_fields : resetParams.missAction = .pass ∧ resetParams.missLogging = false
    ∧ resetParams.responseTimeout = 20 ∧ resetParams.epochLength = 10000
    ∧ ∀ m : Fin Config.meters, resetParams.meters[m] = ⟨0, .refuse⟩ :=
  ⟨rfl, rfl, rfl, rfl, fun m => by simp [resetParams]⟩

theorem resetBank_empty (n : Fin Config.bankSlots) : resetBank.slots[n] = none := by simp [resetBank]

theorem powerOnFallbackTable_empty (n : Fin Config.fallbackSlots) : powerOnFallbackTable.slots[n] = none := by
  simp [powerOnFallbackTable]

section
variable (straps : BitVec 6) (start : StartStrap) (choices : Nat) (pending : List Instr)

theorem State.powerOn_entry (i : EntryIndex) : (State.powerOn straps start choices pending).table[i] = ⟨0, .free⟩ := by
  simp [State.powerOn, resetTable]

theorem State.powerOn_meter (m : Fin Config.meters) :
    (State.powerOn straps start choices pending).meters[m] = ⟨0, 0⟩ := by
  simp [State.powerOn, resetMeters]

theorem State.powerOn_count (c : Counter) : (State.powerOn straps start choices pending).count c = 0 := by
  simp [State.count, State.powerOn, resetCounters]

theorem State.powerOn_alert : (State.powerOn straps start choices pending).alert = false := by
  simp [State.alert, State.powerOn, EventUnit.lineSet, resetEvents]

end

/-- Settles O4: each block is given its power-on values, and the straps are sampled. -/
theorem powerOnResetLeaves : Obligations.PowerOnResetLeaves := by
  intro straps start s
  refine ⟨State.powerOn straps start s.choices s.pending, rfl, State.powerOn_entry straps start _ _, rfl, rfl,
    fun n => ⟨resetBank_empty n, resetBank_empty n⟩, fun p bank => ?params,
    powerOnFallbackTable_empty, rfl, rfl,
    rfl, rfl, rfl, State.powerOn_meter straps start _ _, rfl,
    rfl, rfl, rfl, State.powerOn_alert straps start _ _, rfl, rfl,
    startMode_eq start, rfl, rfl, rfl, rfl, sampled_valid, sampled_invalid,
    rfl, rfl, rfl, rfl, State.powerOn_count straps start _ _, rfl⟩
  case params =>
    obtain rfl : p = resetParams := bank.elim id id
    exact resetParams_fields

end Sys2Proof.Machine
end

section
/-! PROOFS. Which rule a request matches, and which rule or miss decides it (R28, R29). -/
namespace Sys2Proof.Machine

/-! ### The conditions of a rule (R28) -/

section
variable {q : Request} {offset : Nat}

/-- The station condition holds for every station when the rule lists none. -/
theorem Selector.selects_iff (x : Selector) : x.selects q = true ↔
    (x.nodeLow.toNat ≤ q.node.toNat ∧ q.node.toNat ≤ x.nodeHigh.toNat)
    ∧ x.operations.holds (requestOperation q.body) = true
    ∧ (x.registerLow.toNat ≤ q.register.toNat ∧ q.register.toNat ≤ x.registerHigh.toNat)
    ∧ ∀ l, x.stations = some l → q.station ∈ l := by
  cases stations : x.stations <;> simp [Selector.selects, stations, and_assoc]

/-- A window whose open offset is not below its close offset wraps. -/
theorem Window.contains_iff (w : Window) : w.contains offset = true ↔
    (w.openOffset < w.closeOffset → w.openOffset ≤ offset ∧ offset < w.closeOffset)
    ∧ (w.closeOffset ≤ w.openOffset → w.openOffset ≤ offset ∨ offset < w.closeOffset) := by
  unfold Window.contains
  split
  case isTrue below => simp [below, Nat.not_le.2 below]
  case isFalse wraps => simp [Nat.not_lt.1 wraps, wraps]

theorem Rule.matchesRequest_iff (r : Rule) : r.matchesRequest q offset = true ↔
    r.selector.selects q = true ∧ ∀ w, r.window = some w → w.contains offset = true := by
  cases window : r.window <;> simp [Rule.matchesRequest, window]

end

/-! ### The scan (R29) -/

section
variable {q : Request} {offset : Nat}

/-- A slot holds no rule that the request matches. -/
def PassesOver (q : Request) (offset : Nat) (slot : Option Rule) : Prop :=
  ∀ r, slot = some r → r.matchesRequest q offset = false

theorem firstMatch_cons_passed {slot : Option Rule} (passed : PassesOver q offset slot) (start : Nat)
    (rest : List (Option Rule)) : firstMatch q offset start (slot :: rest) = firstMatch q offset (start + 1) rest := by
  cases slot with
  | none => rfl
  | some r => rw [firstMatch, if_neg (by simp [passed r rfl])]

theorem firstMatch_none {slots : List (Option Rule)} (passed : ∀ slot ∈ slots, PassesOver q offset slot) (start : Nat) :
    firstMatch q offset start slots = none := by
  induction slots generalizing start with
  | nil => rfl
  | cons slot rest ih =>
    obtain ⟨first, others⟩ := List.forall_mem_cons.1 passed
    rw [firstMatch_cons_passed first, ih others]

/-- The scan stops at the first rule that matches. -/
theorem firstMatch_append {before : List (Option Rule)} (passed : ∀ slot ∈ before, PassesOver q offset slot) {r : Rule}
    (hit : r.matchesRequest q offset = true) (start : Nat) (rest : List (Option Rule)) :
    firstMatch q offset start (before ++ some r :: rest) = some (start + before.length, r) := by
  induction before generalizing start with
  | nil => rw [List.nil_append, firstMatch, if_pos hit]; rfl
  | cons slot before ih =>
    obtain ⟨first, others⟩ := List.forall_mem_cons.1 passed
    rw [List.cons_append, firstMatch_cons_passed first, ih others, List.length_cons]
    simp only [Option.some.injEq, Prod.mk.injEq, and_true]
    omega

/-- The lowest slot that matches is the one the scan finds. -/
theorem firstMatch_lowest {slots : List (Option Rule)} {n : Nat} {r : Rule} (slot : slots[n]? = some (some r))
    (hit : r.matchesRequest q offset = true)
    (lowest : ∀ k < n, ∀ x, slots[k]? = some x → PassesOver q offset x) :
    firstMatch q offset 0 slots = some (n, r) := by
  obtain ⟨inside, found⟩ := List.getElem?_eq_some_iff.1 slot
  have parts : slots = slots.take n ++ some r :: slots.drop (n + 1) := by
    rw [← found, List.getElem_cons_drop, List.take_append_drop]
  have length : (slots.take n).length = n := by rw [List.length_take]; omega
  have passed : ∀ x ∈ slots.take n, PassesOver q offset x := by
    intro x member
    obtain ⟨k, below, rfl⟩ := List.getElem_of_mem member
    rw [length] at below
    exact lowest k below _ (by simp)
  rw [parts, firstMatch_append passed hit, length, Nat.zero_add]

theorem MissAction.decides_eq (miss : MissAction) (q : Request) :
    miss.decides (requestOperation q.body) = MissDecision miss q := by
  cases miss <;> cases body : q.body <;> simp [MissAction.decides, requestOperation, MissDecision, body]

section
variable (table : TableId) (miss : MissAction) (missLevel : LogLevel) (timeout : Nat)

theorem verdictOf_lowest {slots : List (Option Rule)} {n : Nat} {r : Rule} (slot : slots[n]? = some (some r))
    (hit : r.matchesRequest q offset = true) (lowest : ∀ k < n, ∀ x, slots[k]? = some x → PassesOver q offset x) :
    verdictOf table slots miss missLevel timeout q offset = ⟨table, some n, r.action, r.logLevel, timeout⟩ := by
  simp only [verdictOf, firstMatch_lowest slot hit lowest]

theorem verdictOf_miss {slots : List (Option Rule)} (passed : ∀ slot ∈ slots, PassesOver q offset slot) :
    verdictOf table slots miss missLevel timeout q offset
      = ⟨table, none, MissDecision miss q, missLevel, timeout⟩ := by
  simp only [verdictOf, firstMatch_none passed, MissAction.decides_eq]

end

end

/-! ### The tables in force (R27) -/

section
variable {s : State} {q : Request} {offset : Nat}

theorem State.verdict_governed (mode : s.control.mode = .governed) : s.verdict q offset
    = verdictOf (.active s.commit.generation) s.active.slots.toList s.active.params.missAction
      (if s.active.params.missLogging then .decision else .none) s.active.params.responseTimeout q offset := by
  simp only [State.verdict, mode]

theorem State.verdict_fallback (mode : s.control.mode = .fallback) : s.verdict q offset
    = verdictOf .fallback (s.fallback.slots.toList.map (·.map FallbackRule.toRule)) s.fallback.missAction .none
      s.fallback.responseTimeout q offset := by
  simp only [State.verdict, mode]

/-- A slot of the active bank, found in the list that is scanned. -/
theorem Bank.slot_of_getElem? {b : Bank} {k : Nat} {x : Option Rule} (found : b.slots.toList[k]? = some x) :
    ∃ n : Fin Config.bankSlots, n.val = k ∧ b.slots[n] = x := by
  obtain ⟨inside, same⟩ := List.getElem?_eq_some_iff.1 found
  rw [Vector.length_toList] at inside
  exact ⟨⟨k, inside⟩, rfl, by simpa using same⟩

/-- A slot of the fallback table, found in the list that is scanned. -/
theorem FallbackTable.slot_of_getElem? {f : FallbackTable} {k : Nat} {x : Option Rule}
    (found : (f.slots.toList.map (·.map FallbackRule.toRule))[k]? = some x) :
    ∃ n : Fin Config.fallbackSlots, n.val = k ∧ (f.slots[n]).map FallbackRule.toRule = x := by
  obtain ⟨inside, same⟩ := List.getElem?_eq_some_iff.1 found
  rw [List.length_map, Vector.length_toList] at inside
  exact ⟨⟨k, inside⟩, rfl, by simpa using same⟩

theorem FallbackRule.toRule_action (r : FallbackRule) :
    r.toRule.action = if r.action = .pass then .pass else .refuse := by
  cases action : r.action <;> simp [FallbackRule.toRule, action]

theorem passesOver_toRule {x : Option FallbackRule}
    (passed : ∀ r, x = some r → r.toRule.matchesRequest q offset = false) :
    PassesOver q offset (x.map FallbackRule.toRule) := by
  intro r mapped
  obtain ⟨f, found, rfl⟩ := Option.map_eq_some_iff.1 mapped
  exact passed f found

end

/-- Settles O17: the five conditions, and the scan of the table in force up to the first slot that matches. -/
theorem firstMatchDecides : Obligations.FirstMatchDecides := by
  refine ⟨fun r q offset => ?conditions, fun s q offset mode => ⟨fun n r slot hit lower => ?governedHit,
    fun passed => ?governedMiss⟩, fun s q offset mode => ⟨fun n r slot hit lower => ?fallbackHit,
    fun passed => ?fallbackMiss⟩⟩
  case conditions =>
    simp only [Rule.matchesRequest_iff, Selector.selects_iff, Window.contains_iff, and_assoc]
    cases q.body <;> exact Iff.rfl
  case governedHit =>
    rw [State.verdict_governed mode]
    refine verdictOf_lowest _ _ _ _ (by simpa using slot) hit fun k below x found => ?_
    obtain ⟨j, rfl, rfl⟩ := Bank.slot_of_getElem? found
    exact lower j below
  case governedMiss =>
    rw [State.verdict_governed mode]
    refine verdictOf_miss _ _ _ _ fun x member => ?_
    obtain ⟨k, found⟩ := List.getElem?_of_mem member
    obtain ⟨j, rfl, rfl⟩ := Bank.slot_of_getElem? found
    exact passed j
  case fallbackHit =>
    have found : (s.fallback.slots.toList.map (·.map FallbackRule.toRule))[n.val]? = some (some r.toRule) := by
      have rule : s.fallback.slots[n.val] = some r := slot
      simp [rule]
    rw [State.verdict_fallback mode, verdictOf_lowest _ _ _ _ found hit, FallbackRule.toRule_action]
    · rfl
    · intro k below x found
      obtain ⟨j, rfl, rfl⟩ := FallbackTable.slot_of_getElem? found
      exact passesOver_toRule (lower j below)
  case fallbackMiss =>
    rw [State.verdict_fallback mode]
    refine verdictOf_miss _ _ _ _ fun x member => ?_
    obtain ⟨k, found⟩ := List.getElem?_of_mem member
    obtain ⟨j, rfl, rfl⟩ := FallbackTable.slot_of_getElem? found
    exact passesOver_toRule (passed j)

end Sys2Proof.Machine
end
section
/-! PROOFS. Requests decided HOLD and METER (R33, R34, R35, R47). -/
namespace Sys2Proof.Machine

/-! ### An admitted request up to its move (R6) -/

/-- What the move of an admitted request reads or rests on: its entry, its count and its frame, and what an answer and a
forward step read (R6, R8, R9). -/
def moveReads (i : EntryIndex) : List Part :=
  [.entry i, .counter .requestsAdmitted, .epoch, .counter (.framesAccepted .station)] ++ answerReads

/-- A request has been given its entry, and what has changed since leaves alone all that its move reads. -/
structure Readied (i : EntryIndex) (changed : List Part) (s u : State) : Prop where
  frame : SameBut changed ((s.accept .station).openEntry i) u
  apart : ∀ p ∈ moveReads i, p ∉ changed
  refusals : ∀ c, Part.counter (.refusals c) ∉ changed

namespace Readied
section
variable {i : EntryIndex} {changed moved : List Part} {s t u : State} {x : Txn}

theorem alike (ready : Readied i changed s u) (reaches : FrameReaches .station s) : AnswersAlike s u :=
  ((answersAlike_accept reaches).trans (answersAlike_openEntry i _)).trans
    (.of_frame ready.frame (fun p reads => ready.apart p (List.mem_append_right _ reads)) ready.refusals)

theorem generation (ready : Readied i changed s u) : u.generation i = s.generation i + 1 := by
  have kept : u.generation i = ((s.accept .station).openEntry i).generation i :=
    congrArg Entry.generation (ready.frame (.entry i) (ready.apart _ (by simp [moveReads])))
  rw [kept, State.openEntry_generation, State.accept_generation]

theorem epoch (ready : Readied i changed s u) : u.epoch = s.epoch := by
  have kept : u.epoch = ((s.accept .station).openEntry i).epoch :=
    ready.frame .epoch (ready.apart _ (by simp [moveReads]))
  rw [kept, State.openEntry_epoch, State.accept_epoch]

/-- The move leaves the frame taken and the request counted. -/
theorem admitted (ready : Readied i changed s u) (after : SameBut moved u t) (leaves : LeavesAdmission moved) :
    FrameTaken .station s t ∧ t.count .requestsAdmitted = s.count .requestsAdmitted + 1 := by
  refine ⟨FrameTaken.of_effect (((frame_openEntry i _).trans ready.frame).trans after) ?_ ?_, ?_⟩
  · have apart := ready.apart (.link .station) (by simp [moveReads, answerReads])
    simp [apart, leaves.link]
  · have apart := ready.apart (.counter (.framesAccepted .station)) (by simp [moveReads])
    simp [apart, leaves.accepted]
  · have kept : u.count .requestsAdmitted = _ := ready.frame (.counter .requestsAdmitted)
      (ready.apart _ (by simp [moveReads]))
    refine (after _ leaves.admitted).trans (kept.trans ?_)
    simp

theorem forwarded (ready : Readied i changed s u) (reaches : FrameReaches .station s) (x : Txn) :
    Forwarded i (s.generation i + 1) x s (u.forward i x) := by
  have forwarded := forward_forwarded i x u
  rw [ready.generation] at forwarded
  exact forwarded.from_alike (ready.alike reaches)

theorem given (ready : Readied i changed s u) (reaches : FrameReaches .station s) (x : Txn) (a : Answer) :
    GivenAnswer i (s.generation i + 1) x a s (u.becomeReturning i x a) := by
  have given := becomeReturning_given i x a u
  rw [ready.generation] at given
  exact given.from_alike (ready.alike reaches)

theorem forward_log (ready : Readied i changed s u) (reaches : FrameReaches .station s) (x : Txn) :
    (u.forward i x).log = logAfterAll s.epoch u.log (forwardRecords x s) := by
  rw [State.forward_log, ready.epoch, (ready.alike reaches).forwardRecords]

theorem frame_forward (ready : Readied i changed s u) (reaches : FrameReaches .station s) (x : Txn) :
    SameBut (forwardParts i s ++ loggingParts (forwardRecords x s)) u (u.forward i x) := by
  have after := Machine.frame_forward i x u
  rwa [(ready.alike reaches).forwardParts, (ready.alike reaches).forwardRecords] at after

/-- All that has changed since the request arrived, its entry among what its move changes. -/
theorem rest (ready : Readied i changed s u) (after : SameBut moved u t) (entry : .entry i ∈ moved) :
    SameBut (admissionParts ++ changed ++ moved) s t := by
  refine ((((frame_accept .station s).trans (frame_openEntry i _)).trans ready.frame).trans after).mono ?_
  simp only [admissionParts, List.mem_append]
  grind

end
end Readied

theorem leavesAdmission_forward (i : EntryIndex) (s : State) (records : List RecordBody) :
    LeavesAdmission (forwardParts i s ++ loggingParts records) := by
  constructor <;> unfold forwardParts answerParts <;> split <;>
    simp [mem_loggingParts, recordParts, noticeParts]

theorem leavesAdmission_answer (i : EntryIndex) (c : RefusalCause) : LeavesAdmission (answerParts i (.refusal c)) := by
  constructor <;> simp [answerParts]

theorem entry_mem_forwardParts (i : EntryIndex) (s : State) : .entry i ∈ forwardParts i s := by
  unfold forwardParts answerParts
  split <;> simp

theorem entry_mem_answerParts (i : EntryIndex) (a : Answer) : .entry i ∈ answerParts i a := by simp [answerParts]

/-- A record taken by the log leaves alone what the move reads. -/
theorem recordParts_apart (i : EntryIndex) : ∀ p ∈ moveReads i, p ∉ recordParts := by
  simp [moveReads, answerReads, recordParts, noticeParts]

theorem readied_recordDecision (i : EntryIndex) (x : Txn) (b : RecordBody) (s : State) :
    Readied i (loggingParts (levelRecords x b)) s (s.recordDecision i x b) where
  frame := frame_logDecision x b _
  apart p reads logged := recordParts_apart i p reads (mem_loggingParts.1 logged).2
  refusals c logged := by simpa [recordParts, noticeParts] using (mem_loggingParts.1 logged).2

/-! ### Held, or no room (R33, R47) -/

section
variable (i : EntryIndex) (x : Txn) (limit : Nat) (d : PassRefuse) (s : State)

/-- A reference joins the tail of the hold queue. -/
def State.joinHolds (r : HoldRef) (s : State) : State := { s with holdQueue := s.holdQueue ++ [r] }

theorem frame_joinHolds (r : HoldRef) : SameBut [.holdQueue] s (s.joinHolds r) := by
  intro p hp; cases p <;> simp_all [Part.Kept, State.joinHolds, State.count]
  case link p => cases p <;> rfl

theorem State.becomeHeld_eq : s.becomeHeld i x limit d
    = ((s.setEntry i ⟨s.generation i, .held x ⟨limit, d, s.now + 1000 * limit⟩⟩).joinHolds
      ⟨i, s.generation i⟩).followHolds := by
  simp [State.becomeHeld, State.joinHolds, millis, Nat.mul_comm limit]

/-- What a request held changes. -/
def holdParts (i : EntryIndex) : List Part := [.entry i, .holdQueue] ++ statusParts .holdWaiting

theorem frame_becomeHeld : SameBut (holdParts i) s (s.becomeHeld i x limit d) := by
  rw [State.becomeHeld_eq]
  exact ((frame_setEntry i _ s).trans (frame_joinHolds _ _)).trans (frame_followHolds _)

theorem State.becomeHeld_table : (s.becomeHeld i x limit d).table[i]
    = ⟨s.generation i, .held x ⟨limit, d, s.now + 1000 * limit⟩⟩ := by
  simp [State.becomeHeld_eq, State.joinHolds]

theorem State.becomeHeld_holdQueue :
    (s.becomeHeld i x limit d).holdQueue = s.holdQueue ++ [⟨i, s.generation i⟩] := by
  simp [State.becomeHeld_eq, State.joinHolds]

theorem State.becomeHeld_isSet : (s.becomeHeld i x limit d).events.isSet .holdWaiting = true := by
  simp [State.becomeHeld_eq, State.joinHolds]

theorem State.becomeHeld_log : (s.becomeHeld i x limit d).log = s.log := by
  simp [State.becomeHeld_eq, State.joinHolds]

theorem State.openEntry_holdQueue : (s.openEntry i).holdQueue = s.holdQueue := by simp [State.openEntry]

theorem State.recordDecision_holdQueue (b : RecordBody) : (s.recordDecision i x b).holdQueue = s.holdQueue := by
  simp [State.recordDecision, State.openEntry]

theorem State.recordDecision_now (b : RecordBody) : (s.recordDecision i x b).now = s.now := by
  simp [State.recordDecision, State.openEntry]

end

/-- The refusal HOLD_FULL has no completion record (R20). -/
theorem completionRecords_holdFull (x : Txn) : completionRecords x (.refusal .holdFull) = [] := by
  simp [completionRecords, completionRecord]

/-- Settles O15, by the room in the hold queue: the record and the hold, or the record, the answer HOLD_FULL and the
status. -/
theorem requestDecidedHold : Obligations.RequestDecidedHold := by
  intro q stamp i limit d s admitted v x action
  have reaches := admitted.reaches
  have fields : txnOf q stamp v = x := by simp only [txnOf, action, RuleAction.decision, x]
  have runs := exec_requestArrival_admitted admitted stamp action fields
  clear_value x
  have length : ((s.accept .station).openEntry i).holdQueue.length = s.holdQueue.length := by
    rw [State.openEntry_holdQueue, State.accept_holdQueue]
  refine ⟨fun room => ?held, fun full => ?overflow⟩
  case held =>
    have ready := readied_recordDecision i x (decisionRecord x .hold none none) s
    have held : ((s.accept .station).openEntry i).decideBy i x (.hold limit d)
        = (s.recordDecision i x (decisionRecord x .hold none none)).becomeHeld i x limit d :=
      if_pos (by rwa [length])
    rw [held] at runs
    have after := (frame_becomeHeld i x limit d (s.recordDecision i x (decisionRecord x .hold none none))).trans
      (frame_settle _)
    rw [List.append_nil] at after
    obtain ⟨taken, counted⟩ := ready.admitted after (by constructor <;> simp [holdParts, statusParts, noticeParts])
    refine ⟨_, runs, taken, counted, ?_, ?_, ?_, ?_, ?_⟩
    · refine (State.becomeHeld_table i x limit d _).trans ?_
      rw [ready.generation, State.recordDecision_now]
    · rw [State.settle_holdQueue, State.becomeHeld_holdQueue, ready.generation, State.recordDecision_holdQueue]
    · exact State.becomeHeld_isSet i x limit d _
    · rw [State.settle_log, State.becomeHeld_log, State.recordDecision_log]
      rfl
    · refine (ready.rest after (by simp [holdParts])).mono ?_
      simp only [holdParts, levelRecords, decisionRecords, List.mem_append]
      grind
  case overflow =>
    have ready := readied_recordDecision i x (decisionRecord x .hold none (some .holdFull)) s
    have refused : ((s.accept .station).openEntry i).decideBy i x (.hold limit d)
        = ((s.recordDecision i x (decisionRecord x .hold none (some .holdFull))).becomeReturning i x
          (.refusal .holdFull)).setStatus .holdOverflow :=
      if_neg (by rw [length]; exact Nat.not_lt.2 full)
    rw [refused] at runs
    have after := ((frame_becomeReturning i x (.refusal .holdFull) (s.recordDecision i x
      (decisionRecord x .hold none (some .holdFull)))).trans (frame_setStatus .holdOverflow _)).trans (frame_settle _)
    rw [completionRecords_holdFull, loggingParts_nil, List.append_nil, List.append_nil] at after
    obtain ⟨taken, counted⟩ := ready.admitted after (by
      constructor <;> simp [answerParts, statusParts, noticeParts])
    refine ⟨_, runs, taken, counted, ?_, ?_, ?_, ?_⟩
    · exact ((ready.given reaches x (.refusal .holdFull)).setStatus .holdOverflow).settle
    · simp
    · rw [State.settle_log, State.setStatus_log, State.becomeReturning_log, completionRecords_holdFull, logAfterAll_nil,
        State.recordDecision_log]
      rfl
    · refine (ready.rest after (by simp [answerParts])).mono ?_
      simp only [levelRecords, decisionRecords, List.mem_append]
      grind

/-! ### Within and over budget (R34, R35) -/

section
variable (i : EntryIndex) (m : Fin Config.meters) (s : State)

/-- An admitted request is counted as consumed (R34). -/
def State.consume : State :=
  ((s.accept .station).openEntry i).setMeter m ⟨s.meters[m].consumed + 1, s.meters[m].exceed⟩

/-- An admitted request is counted as exceeding, and METER_EXCEEDED is set (R35). -/
def State.exceed : State :=
  (((s.accept .station).openEntry i).setMeter m ⟨s.meters[m].consumed, s.meters[m].exceed + 1⟩).setStatus .meterExceeded

theorem frame_consume : SameBut [.meter m] ((s.accept .station).openEntry i) (s.consume i m) := frame_setMeter m _ _

theorem frame_exceed :
    SameBut ([.meter m] ++ statusParts .meterExceeded) ((s.accept .station).openEntry i) (s.exceed i m) :=
  (frame_setMeter m _ _).trans (frame_setStatus .meterExceeded _)

theorem State.consume_meter : (s.consume i m).meters[m] = ⟨s.meters[m].consumed + 1, s.meters[m].exceed⟩ := by
  simp [State.consume]

theorem State.exceed_meter : (s.exceed i m).meters[m] = ⟨s.meters[m].consumed, s.meters[m].exceed + 1⟩ := by
  simp [State.exceed]

theorem State.exceed_isSet : (s.exceed i m).events.isSet .meterExceeded = true := by simp [State.exceed]

theorem State.consume_log : (s.consume i m).log = s.log := by simp [State.consume]

theorem State.exceed_log : (s.exceed i m).log = s.log := by simp [State.exceed]

theorem State.consume_epoch : (s.consume i m).epoch = s.epoch := by simp [State.consume]

theorem State.exceed_epoch : (s.exceed i m).epoch = s.epoch := by simp [State.exceed]

theorem State.openEntry_withinBudget : ((s.accept .station).openEntry i).withinBudget m
    = decide (s.meters[m].consumed.toNat < s.active.params.meters[m].budget.toNat) := by
  simp [State.withinBudget, State.meterSetting, State.openEntry]

theorem State.openEntry_meters : (s.openEntry i).meters = s.meters := by simp [State.openEntry]

theorem State.openEntry_meterSetting :
    ((s.accept .station).openEntry i).meterSetting m = s.active.params.meters[m] := by
  simp [State.meterSetting, State.openEntry]

variable {i m s} {x : Txn}

theorem decideBy_meter_within (within : s.meters[m].consumed.toNat < s.active.params.meters[m].budget.toNat) :
    ((s.accept .station).openEntry i).decideBy i x (.meter m)
      = ((s.consume i m).logDecision x (decisionRecord x .pass (some ⟨m, false⟩) none)).forward i x := by
  simp only [State.decideBy, State.decideMeter, State.openEntry_withinBudget, decide_eq_true within, if_true,
    State.openEntry_meters, State.accept_meters, State.consume]

section
variable (spent : s.active.params.meters[m].budget.toNat ≤ s.meters[m].consumed.toNat)
include spent

theorem decideBy_meter_refuse (refuse : s.active.params.meters[m].exceed = .refuse) :
    ((s.accept .station).openEntry i).decideBy i x (.meter m)
      = ((s.exceed i m).logDecision x (decisionRecord x .refuse (some ⟨m, true⟩) (some .meter))).becomeReturning i x
        (.refusal .meter) := by
  simp only [State.decideBy, State.decideMeter, State.openEntry_withinBudget, decide_eq_false (Nat.not_lt.2 spent),
    Bool.false_eq_true, if_false, State.openEntry_meters, State.accept_meters, State.openEntry_meterSetting, refuse,
    State.exceed]

theorem decideBy_meter_flagged (flagged : s.active.params.meters[m].exceed = .passFlagged) :
    ((s.accept .station).openEntry i).decideBy i x (.meter m)
      = ((s.exceed i m).logRecord (decisionRecord x .pass (some ⟨m, true⟩) none)).forward i x := by
  simp only [State.decideBy, State.decideMeter, State.openEntry_withinBudget, decide_eq_false (Nat.not_lt.2 spent),
    Bool.false_eq_true, if_false, State.openEntry_meters, State.accept_meters, State.openEntry_meterSetting, flagged,
    State.exceed]

end
end

section
variable {i : EntryIndex} {m : Fin Config.meters} {s u v : State} {charged : List Part} {records : List RecordBody}

/-- The meter is charged and the record written before the request moves on. -/
theorem readied_metered (charging : SameBut charged ((s.accept .station).openEntry i) u)
    (meter : ∀ p ∈ charged, p ∈ [.meter m] ++ statusParts .meterExceeded)
    (recording : SameBut (loggingParts records) u v) : Readied i (charged ++ loggingParts records) s v where
  frame := charging.trans recording
  apart p reads changed := by
    rcases List.mem_append.1 changed with listed | logged
    · have meterPart := meter p listed
      simp only [moveReads, answerReads, statusParts, noticeParts] at reads meterPart
      grind
    · exact recordParts_apart i p reads (mem_loggingParts.1 logged).2
  refusals c changed := by
    rcases List.mem_append.1 changed with listed | logged
    · simpa [statusParts, noticeParts] using meter _ listed
    · simpa [recordParts, noticeParts] using (mem_loggingParts.1 logged).2

end

/-- The refusal METER has no completion record (R20). -/
theorem completionRecords_meter (x : Txn) : completionRecords x (.refusal .meter) = [] := by
  simp [completionRecords, completionRecord]

/-- Settles O16, by the budget and the exceed action: the meter is charged, the record written, and the request forwarded
or answered METER. -/
theorem requestDecidedMeter : Obligations.RequestDecidedMeter := by
  intro q stamp i m s admitted v x setting within refused flagged action
  have reaches := admitted.reaches
  have fields : txnOf q stamp v = x := by simp only [txnOf, action, RuleAction.decision, x]
  have runs := exec_requestArrival_admitted admitted stamp action fields
  clear_value x
  refine ⟨fun below => ?within, fun spent refuse => ?refused, fun spent pass => ?flagged⟩
  case within =>
    rw [decideBy_meter_within below] at runs
    have ready := readied_metered (m := m) (frame_consume i m s) (by simp)
      (frame_logDecision x (decisionRecord x .pass (some ⟨m, false⟩) none) _)
    have after := (ready.frame_forward reaches x).trans (frame_settle _)
    rw [List.append_nil] at after
    obtain ⟨taken, counted⟩ := ready.admitted after (leavesAdmission_forward i s _)
    refine ⟨_, runs, taken, counted, ?_, (ready.forwarded reaches x).settle, ?_, ?_⟩
    · simpa using State.consume_meter i m s
    · rw [State.settle_log, ready.forward_log reaches, State.logDecision_log, State.consume_log, State.consume_epoch,
        ← logAfterAll_append]
      rfl
    · refine (ready.rest after (List.mem_append_left _ (entry_mem_forwardParts i s))).mono ?_
      simp only [within, decisionRecords, mem_loggingParts_append, List.mem_append]
      grind
  case refused =>
    rw [decideBy_meter_refuse spent refuse] at runs
    have ready := readied_metered (m := m) (frame_exceed i m s) (fun _ listed => listed)
      (frame_logDecision x (decisionRecord x .refuse (some ⟨m, true⟩) (some .meter)) _)
    have after := (frame_becomeReturning i x (.refusal .meter) ((s.exceed i m).logDecision x
      (decisionRecord x .refuse (some ⟨m, true⟩) (some .meter)))).trans (frame_settle _)
    rw [completionRecords_meter, loggingParts_nil, List.append_nil, List.append_nil] at after
    obtain ⟨taken, counted⟩ := ready.admitted after (leavesAdmission_answer i .meter)
    refine ⟨_, runs, taken, counted, ?_, ?_, (ready.given reaches x (.refusal .meter)).settle, ?_, ?_⟩
    · simpa using State.exceed_meter i m s
    · rw [State.settle_events, State.becomeReturning_isSet (by simp) (by simp)]
      exact (frame_logDecision x _ (s.exceed i m) (.status .meterExceeded) (by
        simp [mem_loggingParts, recordParts, noticeParts])).trans (State.exceed_isSet i m s)
    · rw [State.settle_log, State.becomeReturning_log, completionRecords_meter, logAfterAll_nil, State.logDecision_log,
        State.exceed_log, State.exceed_epoch]
      rfl
    · refine (ready.rest after (entry_mem_answerParts i _)).mono ?_
      simp only [refused, decisionRecords, List.mem_append]
      grind
  case flagged =>
    rw [decideBy_meter_flagged spent pass] at runs
    have ready := readied_metered (m := m) (frame_exceed i m s) (fun _ listed => listed)
      (records := [decisionRecord x .pass (some ⟨m, true⟩) none])
      (frame_logRecord (decisionRecord x .pass (some ⟨m, true⟩) none) _)
    have after := (ready.frame_forward reaches x).trans (frame_settle _)
    rw [List.append_nil] at after
    obtain ⟨taken, counted⟩ := ready.admitted after (leavesAdmission_forward i s _)
    refine ⟨_, runs, taken, counted, ?_, ?_, (ready.forwarded reaches x).settle, ?_, ?_⟩
    · simpa using State.exceed_meter i m s
    · rw [State.settle_events, State.forward_isSet (by simp) (by simp)]
      simp [State.exceed_isSet i m s]
    · rw [State.settle_log, ready.forward_log reaches, State.logRecord_log, State.exceed_log, State.exceed_epoch]
      rfl
    · refine (ready.rest after (List.mem_append_left _ (entry_mem_forwardParts i s))).mono ?_
      simp only [flagged, mem_loggingParts_append, List.mem_append]
      grind

end Sys2Proof.Machine
end
section
/-! PROOFS. The field checks of rule records and bank parameters, by their place in the order (R37, R39, R42). -/
namespace Sys2Proof.Machine

/-! ### The first check that fails -/

/-- A list of checks fails, place by place counted from 1, where a predicate on places holds. -/
def ChecksPlaces (fails : Nat → Prop) (checks : List Bool) : Prop :=
  ∀ k, (inside : k < checks.length) → (checks[k] = true ↔ fails (k + 1))

section
variable {fails : Nat → Prop} {checks : List Bool}

theorem ChecksPlaces.nil : ChecksPlaces fails [] := fun _ inside => absurd inside (Nat.not_lt_zero _)

theorem ChecksPlaces.cons {check : Bool} (first : check = true ↔ fails 1)
    (rest : ChecksPlaces (fun k => fails (k + 1)) checks) : ChecksPlaces fails (check :: checks) := by
  intro k inside
  cases k with
  | zero => exact first
  | succ k => exact rest k (Nat.lt_of_succ_lt_succ inside)

theorem ChecksPlaces.firstFailing_some (places : ChecksPlaces fails checks) {place : Nat} (low : 1 ≤ place)
    (high : place ≤ checks.length) (failed : fails place) (earlier : ∀ k < place, 1 ≤ k → ¬ fails k) :
    firstFailing checks = some place := by
  obtain ⟨k, rfl⟩ := Nat.exists_eq_add_of_le' low
  have found : checks.findIdx? id = some k := by
    refine List.findIdx?_eq_some_iff_getElem.2 ⟨high, (places k high).2 failed, fun j below check => ?_⟩
    exact earlier (j + 1) (by omega) (by omega) ((places j _).1 check)
  rw [firstFailing, found]
  rfl

theorem ChecksPlaces.firstFailing_none (places : ChecksPlaces fails checks)
    (passed : ∀ k, 1 ≤ k → k ≤ checks.length → ¬ fails k) : firstFailing checks = none := by
  rw [firstFailing_eq_none]
  intro check member
  obtain ⟨k, inside, rfl⟩ := List.getElem_of_mem member
  exact Bool.eq_false_iff.2 fun failed => passed (k + 1) (by omega) inside ((places k inside).1 failed)

theorem ChecksPlaces.append {before after : List Bool} {n : Nat} (length : before.length = n)
    (first : ChecksPlaces fails before) (rest : ChecksPlaces (fun k => fails (k + n)) after) :
    ChecksPlaces fails (before ++ after) := by
  intro k inside
  rw [List.length_append] at inside
  by_cases early : k < before.length
  · rw [List.getElem_append_left early]
    exact first k early
  · have place : k - before.length + 1 + n = k + 1 := by omega
    rw [List.getElem_append_right (Nat.not_lt.1 early), ← place]
    exact rest (k - before.length) (by omega)

theorem ChecksPlaces.congr {others : Nat → Prop} (places : ChecksPlaces fails checks)
    (same : ∀ k, 1 ≤ k → k ≤ checks.length → (fails k ↔ others k)) : ChecksPlaces others checks :=
  fun k inside => (places k inside).trans (same (k + 1) (by omega) inside)

end

/-! ### Enumerated arguments out of range -/

theorem isNone_of_two {α : Type} (b : Byte) (x y : α) :
    (if b = 0 then some x else if b = 1 then some y else none).isNone = decide (1 < b.toNat) := by
  rw [Bool.eq_iff_iff, decide_eq_true_iff]
  split
  · simp [*]
  split
  · simp [*]
  · simp only [Option.isNone_none, true_iff]
    bv_omega

theorem isNone_of_three {α : Type} (b : Byte) (x y z : α) :
    (if b = 0 then some x else if b = 1 then some y else if b = 2 then some z else none).isNone
      = decide (2 < b.toNat) := by
  rw [Bool.eq_iff_iff, decide_eq_true_iff]
  split
  · simp [*]
  split
  · simp [*]
  split
  · simp [*]
  · simp only [Option.isNone_none, true_iff]
    bv_omega

section
variable (b : Byte)

theorem readPassRefuse_isNone : (readPassRefuse b).isNone = decide (1 < b.toNat) := isNone_of_two b _ _

theorem readExceedAction_isNone : (readExceedAction b).isNone = decide (1 < b.toNat) := isNone_of_two b _ _

theorem readLogLevel_isNone : (readLogLevel b).isNone = decide (2 < b.toNat) := isNone_of_three b _ _ _

theorem readMissAction_isNone : (readMissAction b).isNone = decide (2 < b.toNat) := isNone_of_three b _ _ _

end

/-! ### The fields of a record, byte by byte -/

section
variable {r : List Byte} {place : Nat}

theorem recordByte_eq (inside : place < r.length) : recordByte r place = r[place].toNat := by
  simp [recordByte, inside]

theorem field_byte (inside : place < r.length) : field r place 1 = recordByte r place := by
  rw [field, List.drop_eq_getElem_cons inside, recordByte_eq inside]
  simp only [spelled, List.take_succ_cons, List.take_zero, List.foldl_cons, List.foldl_nil, Nat.zero_mul, Nat.zero_add]

theorem field_half (inside : place + 1 < r.length) : field r place 2 = recordHalf r place := by
  rw [field, List.drop_eq_getElem_cons (Nat.lt_of_succ_lt inside), List.drop_eq_getElem_cons inside, recordHalf,
    recordByte_eq (Nat.lt_of_succ_lt inside), recordByte_eq inside]
  simp only [spelled, List.take_succ_cons, List.take_zero, List.foldl_cons, List.foldl_nil, Nat.zero_mul, Nat.zero_add]

theorem field_offset (inside : place + 2 < r.length) : field r place 3 = recordOffset r place := by
  have second : place + 1 < r.length := Nat.lt_of_succ_lt inside
  rw [field, List.drop_eq_getElem_cons (Nat.lt_of_succ_lt second), List.drop_eq_getElem_cons second,
    List.drop_eq_getElem_cons inside, recordOffset, recordHalf, recordByte_eq (Nat.lt_of_succ_lt second),
    recordByte_eq second, recordByte_eq inside]
  simp only [spelled, List.take_succ_cons, List.take_zero, List.foldl_cons, List.foldl_nil, Nat.zero_mul, Nat.zero_add]

theorem field_half_toNat (inside : place + 1 < r.length) :
    (BitVec.ofNat 16 (field r place 2)).toNat = recordHalf r place := by
  have small : field r place 2 < 2 ^ 16 := field_lt r place 2
  rw [BitVec.toNat_ofNat, Nat.mod_eq_of_lt small, field_half inside]

end

/-! ### The checks of a rule record (R37, R42) -/

section
variable {record : List Byte} (form : record.length = 25)

theorem badAddress_iff (a : Byte) : badAddress a = true ↔ a.toNat = 0 ∨ 62 < a.toNat := by simp [badAddress]

theorem not_ruleAddress_iff (a : Byte) : ¬ ruleAddress a ↔ badAddress a = true := by
  rw [ruleAddress_iff, Bool.not_eq_false]

/-- No operation is set when the three low bits are clear. -/
theorem operations_empty_iff (b : Byte) :
    (!b.getLsbD 0 && !b.getLsbD 1 && !b.getLsbD 2) = true ↔ b.toNat % 8 = 0 := by
  revert b; decide

include form

theorem readRuleRecord_stations : (readRuleRecord record).stations = recordStations record := by
  simp only [RuleRecord.stations, readRuleRecord, recordStations, field_byte (r := record) (place := 8) (by omega)]

theorem stationFaults_iff : (decide (4 < (readRuleRecord record).stationCount)
      || (readRuleRecord record).stations.any badAddress || !decide (readRuleRecord record).stations.Nodup) = true
    ↔ SelectorFieldFails record 6 := by
  have count : (readRuleRecord record).stationCount = recordByte record 8 := field_byte (by omega)
  simp only [readRuleRecord_stations form, count, SelectorFieldFails, not_ruleAddress_iff, Bool.or_eq_true,
    decide_eq_true_eq, List.any_eq_true, Bool.not_eq_true', decide_eq_false_iff_not, or_assoc]

theorem selectorFaults_places : ChecksPlaces (fun k => SelectorFieldFails record (k + 1))
    (readRuleRecord record).selectorFaults := by
  have low : (readRuleRecord record).registerLow.toNat = recordHalf record 4 := field_half_toNat (by omega)
  have high : (readRuleRecord record).registerHigh.toNat = recordHalf record 6 := field_half_toNat (by omega)
  refine .cons (badAddress_iff _) (.cons ?high (.cons (operations_empty_iff _) (.cons ?registers
    (.cons (stationFaults_iff form) .nil))))
  case high =>
    rw [Bool.or_eq_true, badAddress_iff, decide_eq_true_iff, or_assoc]
    exact Iff.rfl
  case registers =>
    rw [decide_eq_true_iff, low, high]
    exact Iff.rfl

theorem windowFault_iff : ((readRuleRecord record).hasWindow && decide (999999 < (readRuleRecord record).openOffset
      ∨ 999999 < (readRuleRecord record).closeOffset
      ∨ (readRuleRecord record).openOffset = (readRuleRecord record).closeOffset)) = true
    ↔ recordHas record 0 = true ∧ (999999 < recordOffset record 13 ∨ 999999 < recordOffset record 16
      ∨ recordOffset record 13 = recordOffset record 16) := by
  have opening : (readRuleRecord record).openOffset = recordOffset record 13 := field_offset (by omega)
  have closing : (readRuleRecord record).closeOffset = recordOffset record 16 := field_offset (by omega)
  rw [opening, closing, Bool.and_eq_true, decide_eq_true_iff]
  exact Iff.rfl

theorem readRuleRecord_holdLimit : (readRuleRecord record).holdLimit = recordHalf record 21 := field_half (by omega)

end

/-- A field that must be present for one action, with a value that passes, and absent for any other (R37). -/
theorem actionField_iff {acts : Prop} [Decidable acts] {has bad : Bool} :
    (if acts then !has || bad else has) = true
      ↔ (has = true ∧ (¬ acts ∨ bad = true)) ∨ (has = false ∧ acts) := by
  by_cases acts <;> cases has <;> simp [*]

theorem ruleFieldFails_selector (slot : Byte) (record : List Byte) {k : Nat} (low : 2 ≤ k) (high : k ≤ 6) :
    SelectorFieldFails record k ↔ RuleFieldFails slot record k := by
  obtain rfl | rfl | rfl | rfl | rfl : k = 2 ∨ k = 3 ∨ k = 4 ∨ k = 5 ∨ k = 6 := by omega
  all_goals exact Iff.rfl

theorem fallbackFieldFails_selector (slot : Byte) (record : List Byte) {k : Nat} (low : 2 ≤ k) (high : k ≤ 6) :
    SelectorFieldFails record k ↔ FallbackFieldFails slot record k := by
  obtain rfl | rfl | rfl | rfl | rfl : k = 2 ∨ k = 3 ∨ k = 4 ∨ k = 5 ∨ k = 6 := by omega
  all_goals exact Iff.rfl

section
variable {record : List Byte} (form : record.length = 25) (slot : Byte)

theorem action_iff (record : List Byte) (b : Byte) :
    (readRuleRecord record).action = b ↔ recordByte record 19 = b.toNat :=
  BitVec.toNat_inj.symm

include form

/-- The checks of WRITE_RULE fail at the places of R37. -/
theorem bankFaults_places :
    ChecksPlaces (RuleFieldFails slot record) ((readRuleRecord record).bankFaults slot.toNat) := by
  refine .append (n := 6) rfl (.cons (decide_eq_true_iff) ((selectorFaults_places form).congr fun k low high => ?_))
    (.cons (windowFault_iff form) (.cons decide_eq_true_iff (.cons ?meter (.cons ?limit (.cons ?default
      (.cons ?level .nil))))))
  · exact ruleFieldFails_selector slot record (by omega) (Nat.succ_le_succ high)
  case meter =>
    rw [actionField_iff, action_iff, decide_eq_true_iff]
    exact Iff.rfl
  case limit =>
    rw [actionField_iff, action_iff, decide_eq_true_iff, readRuleRecord_holdLimit form]
    exact Iff.rfl
  case default =>
    rw [actionField_iff, action_iff, readPassRefuse_isNone, decide_eq_true_iff]
    exact Iff.rfl
  case level =>
    rw [readLogLevel_isNone, decide_eq_true_iff]
    exact Iff.rfl

/-- The checks of WRITE_FALLBACK_RULE fail at the places of R42. -/
theorem fallbackFaults_places :
    ChecksPlaces (FallbackFieldFails slot record) ((readRuleRecord record).fallbackFaults slot.toNat) := by
  refine .append (n := 6) rfl (.cons (decide_eq_true_iff) ((selectorFaults_places form).congr fun k low high => ?_))
    (.cons Iff.rfl (.cons ?action (.cons Iff.rfl (.cons Iff.rfl (.cons Iff.rfl (.cons ?level .nil))))))
  · exact fallbackFieldFails_selector slot record (by omega) (Nat.succ_le_succ high)
  case action =>
    rw [readPassRefuse_isNone, decide_eq_true_iff]
    exact Iff.rfl
  case level =>
    rw [readLogLevel_isNone, decide_eq_true_iff]
    exact Iff.rfl

end
end Sys2Proof.Machine
end
section
/-! PROOFS. A legal rule's record passes its checks, and legal parameters read back (R25, R37, R39, R42). -/
namespace Sys2Proof.Machine

/-! ### A legal rule passes (R25, R37, R42) -/

theorem Selector.Legal.listed {x : Selector} (legal : x.Legal) : (x.stations.getD []).length ≤ 4
    ∧ (x.stations.getD []).Nodup ∧ ∀ a ∈ x.stations.getD [], ruleAddress a := by
  cases stations : x.stations with
  | none => simp
  | some l =>
    obtain ⟨-, four, once, addresses⟩ := legal.stations l stations
    exact ⟨four, once, addresses⟩

theorem RuleAction.code_toNat_le (a : RuleAction) : a.code.toNat ≤ 3 := by
  cases a <;> simp [RuleAction.code]

section
variable {r : Rule}

theorem ruleRecordOf_selectorFaults (legal : r.selector.Legal) :
    ∀ failed ∈ (ruleRecordOf r).selectorFaults, failed = false := by
  obtain ⟨four, once, addresses⟩ := legal.listed
  have listed : (ruleRecordOf r).stations = r.selector.stations.getD [] := padded_take _ four
  have operations := legal.operations
  simp only [RuleRecord.selectorFaults, List.forall_mem_cons, ruleRecordOf_operationSet, listed, Bool.or_eq_false_iff,
    decide_eq_false_iff_not, Bool.not_eq_false', decide_eq_true_eq, List.any_eq_false]
  refine ⟨(ruleAddress_iff _).1 legal.low, ⟨(ruleAddress_iff _).1 legal.high, Nat.not_lt.2 legal.nodes⟩, ?_,
    Nat.not_lt.2 legal.registers, ⟨⟨Nat.not_lt.2 four, fun a member => ?_⟩, once⟩, nofun⟩
  · rw [← Bool.not_or, ← Bool.not_or, operations]; rfl
  · rw [(ruleAddress_iff a).1 (addresses a member)]; exact Bool.false_ne_true

theorem ruleRecordOf_windowFault (legal : r.Legal) : ((ruleRecordOf r).hasWindow
    && decide (999999 < (ruleRecordOf r).openOffset ∨ 999999 < (ruleRecordOf r).closeOffset
      ∨ (ruleRecordOf r).openOffset = (ruleRecordOf r).closeOffset)) = false := by
  have present : (ruleRecordOf r).hasWindow = r.window.isSome := Rule.presence_window r
  rw [present]
  cases window : r.window with
  | none => rfl
  | some w =>
    obtain ⟨opening, closing, apart⟩ := legal.window w window
    simp [ruleRecordOf, window]
    omega

theorem Rule.presence_meter (r : Rule) : r.presence.getLsbD 1 = decide (r.action.code = 3) := by
  cases window : r.window <;> cases action : r.action <;> simp [Rule.presence, window, action, RuleAction.code]

theorem Rule.presence_hold (r : Rule) : r.presence.getLsbD 2 = decide (r.action.code = 2)
    ∧ r.presence.getLsbD 3 = decide (r.action.code = 2) := by
  cases window : r.window <;> cases action : r.action <;> simp [Rule.presence, window, action, RuleAction.code]

/-- A field passes that is present exactly for its action, with a value that passes. -/
theorem actionField_passes {acts : Prop} [Decidable acts] {has bad : Bool} (present : has = decide acts)
    (passes : acts → bad = false) : (if acts then !has || bad else has) = false := by
  by_cases holds : acts
  · simp [holds, present, passes holds]
  · simp [holds, present]

theorem ruleRecordOf_meter (action : r.action.code = 3) : decide (15 < (ruleRecordOf r).meter.toNat) = false := by
  cases kind : r.action with
  | meter m =>
    have small : m.val < 16 := m.isLt
    simp [ruleRecordOf, kind]
    omega
  | pass | refuse | hold => simp [kind, RuleAction.code] at action

theorem ruleRecordOf_holdLimit (legal : r.Legal) (action : r.action.code = 2) :
    decide ((ruleRecordOf r).holdLimit = 0 ∨ 60000 < (ruleRecordOf r).holdLimit) = false := by
  cases kind : r.action with
  | hold limit d =>
    obtain ⟨low, high⟩ := legal.hold limit d kind
    simp [ruleRecordOf, kind]
    omega
  | pass | refuse | meter => simp [kind, RuleAction.code] at action

theorem ruleRecordOf_holdDefault (action : r.action.code = 2) :
    (readPassRefuse (ruleRecordOf r).holdDefault).isNone = false := by
  cases kind : r.action with
  | hold limit d => simp [ruleRecordOf, kind, readPassRefuse_code]
  | pass | refuse | meter => simp [kind, RuleAction.code] at action

theorem ruleRecordOf_level : (readLogLevel (ruleRecordOf r).logLevel).isNone = false := by
  simp [ruleRecordOf, readLogLevel_code]

/-- A legal rule's record passes the checks of WRITE_RULE. -/
theorem ruleRecordOf_bankFaults (legal : r.Legal) {n : Nat} (slot : n ≤ 127) :
    firstFailing ((ruleRecordOf r).bankFaults n) = none := by
  obtain ⟨limit, default⟩ := r.presence_hold
  rw [firstFailing_eq_none]
  simp only [RuleRecord.bankFaults, List.forall_mem_append, List.forall_mem_cons]
  exact ⟨⟨decide_eq_false (Nat.not_lt.2 slot), ruleRecordOf_selectorFaults legal.selector⟩,
    ruleRecordOf_windowFault legal, decide_eq_false (Nat.not_lt.2 r.action.code_toNat_le),
    actionField_passes r.presence_meter ruleRecordOf_meter,
    actionField_passes limit (ruleRecordOf_holdLimit legal),
    actionField_passes default ruleRecordOf_holdDefault, ruleRecordOf_level, nofun⟩

end

/-- A legal fallback rule's record passes the checks of WRITE_FALLBACK_RULE. -/
theorem ruleRecordOf_fallbackFaults {f : FallbackRule} (legal : f.selector.Legal) {n : Nat} (slot : n ≤ 7) :
    firstFailing ((ruleRecordOf f.toRule).fallbackFaults n) = none := by
  have action : (readPassRefuse (ruleRecordOf f.toRule).action).isNone = false := by
    cases kind : f.action <;> simp [ruleRecordOf, FallbackRule.toRule, kind, RuleAction.code, readPassRefuse]
  have absent : (ruleRecordOf f.toRule).presence = 0 := by
    cases kind : f.action <;> simp [ruleRecordOf, FallbackRule.toRule, Rule.presence, kind]
  rw [firstFailing_eq_none]
  simp only [RuleRecord.fallbackFaults, List.forall_mem_append, List.forall_mem_cons, RuleRecord.hasWindow,
    RuleRecord.hasMeter, RuleRecord.hasHoldLimit, RuleRecord.hasHoldDefault, absent]
  exact ⟨⟨decide_eq_false (Nat.not_lt.2 slot), ruleRecordOf_selectorFaults legal⟩, rfl, action, rfl, rfl, rfl,
    ruleRecordOf_level, nofun⟩

/-! ### The parameters of a bank (R23, R39) -/

/-- A meter's settings in three bytes. -/
def meterBytes (x : MeterSetting) : List Byte := bigEndian 2 x.budget.toNat ++ [x.exceed.code]

/-- The first six bytes of a bank's parameters. -/
def paramsHead (p : BankParams) : List Byte :=
  [p.missAction.code, boolCode p.missLogging] ++ bigEndian 1 p.responseTimeout ++ bigEndian 3 p.epochLength

theorem paramsBytes_split (p : BankParams) : paramsBytes p = paramsHead p ++ p.meters.toList.flatMap meterBytes := rfl

theorem drop_meterBytes {l : List MeterSetting} {m : Nat} (inside : m < l.length) :
    (l.flatMap meterBytes).drop (3 * m) = meterBytes l[m] ++ (l.drop (m + 1)).flatMap meterBytes := by
  induction l generalizing m with
  | nil => exact absurd inside (Nat.not_lt_zero m)
  | cons x rest ih =>
    cases m with
    | zero => rfl
    | succ m =>
      have three : (meterBytes x).length = 3 := by simp [meterBytes]
      have places : 3 * (m + 1) = (meterBytes x).length + 3 * m := by omega
      rw [List.flatMap_cons, places, List.drop_length_add_append, ih (Nat.lt_of_succ_lt_succ inside)]
      rfl

theorem flatMap_meterBytes_length (l : List MeterSetting) : (l.flatMap meterBytes).length = 3 * l.length := by
  induction l with
  | nil => rfl
  | cons x rest ih =>
    have three : (meterBytes x).length = 3 := by simp [meterBytes]
    rw [List.flatMap_cons, List.length_append, three, ih, List.length_cons]
    omega

section
variable (p : BankParams)

theorem paramsBytes_length : (paramsBytes p).length = 54 := by
  rw [paramsBytes_split, List.length_append, flatMap_meterBytes_length]
  simp [paramsHead, Config.meters]

theorem drop_paramsBytes (m : Fin Config.meters) :
    ∃ rest, (paramsBytes p).drop (6 + 3 * m.val) = meterBytes p.meters[m] ++ rest := by
  have head : (paramsHead p).length = 6 := by simp [paramsHead]
  have inside : m.val < p.meters.toList.length := by simp
  refine ⟨(p.meters.toList.drop (m.val + 1)).flatMap meterBytes, ?_⟩
  rw [paramsBytes_split, ← head, List.drop_length_add_append, drop_meterBytes inside]
  simp

theorem readMissAction_code (a : MissAction) : readMissAction a.code = some a := by cases a <;> rfl

theorem readExceedAction_code (a : ExceedAction) : readExceedAction a.code = some a := by cases a <;> rfl

theorem byteAt_eq_drop (args : List Byte) (a b : Nat) : byteAt args (a + b) = byteAt (args.drop a) b := by
  simp [byteAt]

theorem byteAt_exceed (m : Fin Config.meters) :
    byteAt (paramsBytes p) (8 + 3 * m.val) = p.meters[m].exceed.code := by
  obtain ⟨rest, bytes⟩ := drop_paramsBytes p m
  have place : 8 + 3 * m.val = 6 + 3 * m.val + 2 := by omega
  rw [place, byteAt_eq_drop, bytes]
  rfl

/-- A meter's settings read back. -/
theorem readMeterSetting_paramsBytes (m : Fin Config.meters) : readMeterSetting (paramsBytes p) m.val = p.meters[m] := by
  obtain ⟨rest, bytes⟩ := drop_paramsBytes p m
  have budget : field (paramsBytes p) (6 + 3 * m.val) 2 = p.meters[m].budget.toNat := by
    have taken : (meterBytes p.meters[m] ++ rest).take 2 = bigEndian 2 p.meters[m].budget.toNat := rfl
    have small : p.meters[m].budget.toNat < 256 ^ 2 := p.meters[m].budget.isLt
    rw [field, bytes, taken, spelled_bigEndian, Nat.mod_eq_of_lt small]
  rw [readMeterSetting, byteAt_exceed, readExceedAction_code, budget]
  simp

theorem field_timeout (high : p.responseTimeout ≤ 255) : field (paramsBytes p) 2 1 = p.responseTimeout := by
  have spells : field (paramsBytes p) 2 1 = spelled (bigEndian 1 p.responseTimeout) := rfl
  rw [spells, spelled_bigEndian, Nat.mod_eq_of_lt (by omega)]

theorem field_epochLength (high : p.epochLength ≤ 1000000) : field (paramsBytes p) 3 3 = p.epochLength := by
  have spells : field (paramsBytes p) 3 3 = spelled (bigEndian 3 p.epochLength) := rfl
  rw [spells, spelled_bigEndian, Nat.mod_eq_of_lt (by omega)]

theorem byteAt_miss : byteAt (paramsBytes p) 0 = p.missAction.code := rfl

theorem byteAt_missLogging : byteAt (paramsBytes p) 1 = boolCode p.missLogging := rfl

variable {p} (timeout : p.responseTimeout ≤ 255) (length : p.epochLength ≤ 1000000)
include timeout length

/-- No bit of a bank's parameters is dropped. -/
theorem readParams_paramsBytes : readParams (paramsBytes p) = p := by
  have meters : (readParams (paramsBytes p)).meters = p.meters := by
    refine Vector.ext fun m inside => ?_
    simpa [readParams] using readMeterSetting_paramsBytes p ⟨m, inside⟩
  calc readParams (paramsBytes p)
      = ⟨(readMissAction (byteAt (paramsBytes p) 0)).getD .pass, (readFlag (byteAt (paramsBytes p) 1)).getD false,
          field (paramsBytes p) 2 1, field (paramsBytes p) 3 3, (readParams (paramsBytes p)).meters⟩ := rfl
    _ = p := by
      rw [meters, byteAt_miss, byteAt_missLogging, readMissAction_code, readFlag_boolCode, field_timeout p timeout,
        field_epochLength p length]
      rfl

theorem paramsFault_paramsBytes (some : 1 ≤ p.responseTimeout) (long : 100 ≤ p.epochLength) :
    paramsFault (paramsBytes p) = none := by
  have exceeds : badExceedMeter (paramsBytes p) = none := by
    refine List.find?_range_eq_none.2 fun m inside => ?_
    rw [byteAt_exceed p ⟨m, inside⟩, readExceedAction_code]
    rfl
  have zero : ¬ p.responseTimeout = 0 := by omega
  have range : ¬ (p.epochLength < 100 ∨ 1000000 < p.epochLength) := by omega
  have checks : firstFailing [false, false, false, false] = none := rfl
  simp only [paramsFault, byteAt_miss, byteAt_missLogging, readMissAction_code, readFlag_boolCode,
    field_timeout p timeout, field_epochLength p length, decide_eq_false zero, decide_eq_false range,
    Option.isNone_some, checks, exceeds, Option.map_none]

end

/-! ### The first parameter that fails (R39) -/

/-- The four checks before those of the meters. -/
def paramChecks (args : List Byte) : List Bool :=
  [(readMissAction (byteAt args 0)).isNone, (readFlag (byteAt args 1)).isNone, decide (field args 2 1 = 0),
    decide (field args 3 3 < 100 ∨ 1000000 < field args 3 3)]

section
variable {args : List Byte}

theorem paramsFault_early {place : Nat} (failing : firstFailing (paramChecks args) = some place) :
    paramsFault args = some (place, 0) := by
  unfold paramChecks at failing
  simp only [paramsFault, failing]

theorem paramsFault_late (passing : firstFailing (paramChecks args) = none) :
    paramsFault args = (badExceedMeter args).map fun m => (5, m) := by
  unfold paramChecks at passing
  simp only [paramsFault, passing]

theorem paramChecks_places (form : args.length = 54) :
    ChecksPlaces (fun place => ParameterFails args place 0) (paramChecks args) := by
  have timeout : field args 2 1 = recordByte args 2 := field_byte (by omega)
  have length : field args 3 3 = recordOffset args 3 := field_offset (by omega)
  refine .cons ?_ (.cons ?_ (.cons ?_ (.cons ?_ .nil)))
  · rw [readMissAction_isNone, decide_eq_true_iff]; exact Iff.rfl
  · rw [readFlag_isNone, decide_eq_true_iff]; exact Iff.rfl
  · rw [timeout, decide_eq_true_iff]; exact Iff.rfl
  · rw [length, decide_eq_true_iff]; exact Iff.rfl

/-- A check belongs to one of the first four places, or to a meter at the fifth. -/
theorem ParameterFails.place {place meter : Nat} (fails : ParameterFails args place meter) :
    (1 ≤ place ∧ place ≤ 4 ∧ meter = 0) ∨ (place = 5 ∧ meter < 16) := by
  unfold ParameterFails at fails
  split at fails
  case h_5 m => exact .inr ⟨rfl, fails.1⟩
  case h_6 => exact absurd fails id
  all_goals exact .inl ⟨by omega, by omega, rfl⟩

theorem exceedFault_iff {m : Nat} (inside : m < 16) :
    (readExceedAction (byteAt args (8 + 3 * m))).isNone = true ↔ ParameterFails args 5 m := by
  rw [readExceedAction_isNone, decide_eq_true_iff]
  exact ⟨fun high => ⟨inside, high⟩, fun fails => fails.2⟩

/-- The first check that fails is the one named, with the meter's number for an exceed action (R39, R187). -/
theorem FirstFailingParameter.paramsFault {place meter : Nat} (form : args.length = 54)
    (first : FirstFailingParameter args place meter) : paramsFault args = some (place, meter) := by
  obtain ⟨fails, earlier⟩ := first
  have places := paramChecks_places form
  rcases fails.place with ⟨low, high, rfl⟩ | ⟨rfl, inside⟩
  · exact paramsFault_early (places.firstFailing_some low high fails fun k below _ => earlier k 0 (.inl below))
  · rw [paramsFault_late (places.firstFailing_none fun k _ high => earlier k 0 (.inl (Nat.lt_succ_of_le high)))]
    have found : badExceedMeter args = some meter := by
      refine List.find?_range_eq_some.2 ⟨(exceedFault_iff inside).2 fails, List.mem_range.2 inside, fun m below => ?_⟩
      rw [Bool.not_eq_true', Bool.eq_false_iff]
      exact fun failed => earlier 5 m (.inr ⟨rfl, below⟩) ((exceedFault_iff (Nat.lt_trans below inside)).1 failed)
    rw [found]
    rfl

end
end Sys2Proof.Machine
end
section
/-! PROOFS. The commands that change the shadow bank (R36 to R39). -/
namespace Sys2Proof.Machine

/-! ### The shadow bank replaced -/

/-- The shadow bank is replaced. -/
def State.setShadow (b : Bank) (s : State) : State := { s with shadow := b }

theorem frame_setShadow (b : Bank) (s : State) : SameBut [.shadow] s (s.setShadow b) := by
  intro p hp; cases p <;> simp_all [Part.Kept, State.setShadow, State.count]
  case link p => cases p <;> rfl

/-- A bank with one slot written or emptied. -/
def Bank.withSlot (b : Bank) (n : Fin Config.bankSlots) (r : Option Rule) : Bank :=
  { b with slots := b.slots.set n.val r n.isLt }

theorem State.putShadowSlot_eq (n : Fin Config.bankSlots) (r : Option Rule) (s : State) :
    s.putShadowSlot n.val r = s.setShadow (s.shadow.withSlot n r) := dif_pos n.isLt

theorem State.badField_eq (s : State) (place meter : Nat) :
    s.badField place meter = s.answer .badField [BitVec.ofNat 8 place, BitVec.ofNat 8 meter] := by
  rw [State.badField, bigEndian_one, bigEndian_one]
  rfl

theorem slotByte_toNat {slots : Nat} (few : slots ≤ 256) (n : Fin slots) : (BitVec.ofNat 8 n.val).toNat = n.val :=
  toNat_ofNat_byte (Nat.lt_of_lt_of_le n.isLt few)

/-! ### The bodies of the commands -/

section
variable (s : State)

theorem writeRuleBody_passes {n : Fin Config.bankSlots} {record : List Byte}
    (passed : firstFailing ((readRuleRecord record).bankFaults n.val) = none) :
    writeRuleBody (BitVec.ofNat 8 n.val :: record) s
      = (s.setShadow (s.shadow.withSlot n (some (readRuleRecord record).toRule))).answer .done [] := by
  simp only [writeRuleBody, field_one, slotByte_toNat (by decide) n, List.drop_one, List.tail_cons, passed,
    State.putShadowSlot_eq]

theorem writeRuleBody_fails {slot : Byte} {record : List Byte} {place : Nat}
    (failed : firstFailing ((readRuleRecord record).bankFaults slot.toNat) = some place) :
    writeRuleBody (slot :: record) s = s.answer .badField [BitVec.ofNat 8 place, 0] := by
  simp only [writeRuleBody, field_one, List.drop_one, List.tail_cons, failed, State.badField_eq]
  rfl

theorem eraseRuleBody_valid (n : Fin Config.bankSlots) :
    eraseRuleBody [BitVec.ofNat 8 n.val] s = (s.setShadow (s.shadow.withSlot n none)).answer .done [] := by
  have slot : ¬ 127 < n.val := by have := n.isLt; simp only [Config.bankSlots] at this; omega
  simp only [eraseRuleBody, field_one, slotByte_toNat (by decide) n, if_neg slot, State.putShadowSlot_eq]

theorem eraseRuleBody_invalid {b : Byte} (outside : 127 < b.toNat) :
    eraseRuleBody [b] s = s.answer .badField [1, 0] := by
  simp only [eraseRuleBody, field_one, if_pos outside, State.badField_eq]
  rfl

theorem writeBankParamsBody_passes {args : List Byte} (passed : paramsFault args = none) : writeBankParamsBody args s
    = (s.setShadow { s.shadow with params := readParams args }).answer .done [] := by
  simp only [writeBankParamsBody, passed]
  rfl

theorem writeBankParamsBody_fails {args : List Byte} {place meter : Nat}
    (failed : paramsFault args = some (place, meter)) : writeBankParamsBody args s
      = s.answer .badField [BitVec.ofNat 8 place, BitVec.ofNat 8 meter] := by
  simp only [writeBankParamsBody, failed, State.badField_eq]

end

/-! ### The first test, and the effect on the shadow bank alone (R36) -/

theorem shadowWrite_pending {s : State} (pending : s.commit.state = .pending) (body : State → Answered) :
    shadowWrite body s = s.answer .commitPending [] := by simp only [shadowWrite, pending]

theorem shadowWrite_idle {s : State} (idle : s.commit.state = .idle) (body : State → Answered) :
    shadowWrite body s = body s := by simp only [shadowWrite, idle]

/-- Each of the five commands makes the test of a shadow write first. -/
theorem exec_shadowRow {c : CommandName}
    (writes : c ∈ [CommandName.writeRule, .eraseRule, .clearShadow, .copyActiveToShadow, .writeBankParams])
    (h : CommandHeader) (args : List Byte) (s : State) :
    ∃ body, exec (c.row h args) s = command c h args (shadowWrite body) s := by
  simp only [List.mem_cons, List.not_mem_nil, or_false] at writes
  obtain rfl | rfl | rfl | rfl | rfl := writes
  all_goals exact ⟨_, rfl⟩

section
variable {h : CommandHeader} {o : OpenSession} {s : State} {c : CommandName} {args : List Byte}
  {body : State → Answered} (new : NewCommand h o s) (idle : s.commit.state = .idle) (form : args.length = c.argBytes)
include new idle form

/-- A shadow write that passes its checks is answered DONE and leaves the bank it wrote. -/
theorem shadowCommand_done {b : Bank} (answer : body (s.accept .station)
      = ((s.accept .station).setShadow b).answer .done []) :
    ∃ t, command c h args (shadowWrite body) s = .next t ∧ Answers c.code h o .done [] [.shadow] s t
      ∧ t.shadow = b := by
  obtain ⟨t, taken, answers, after⟩ := command_sets new c args form
    ((shadowWrite_idle (by rwa [State.accept_commit]) body).trans answer) (frame_setShadow b _) (by decide)
  exact ⟨t, taken, answers, after .shadow (by decide)⟩

/-- A shadow write that fails a check is answered BAD_FIELD. -/
theorem shadowCommand_badField {payload : List Byte} (answer : body (s.accept .station)
      = (s.accept .station).answer .badField payload) :
    ∃ t, command c h args (shadowWrite body) s = .next t ∧ Answers c.code h o .badField payload [] s t :=
  command_answers new form ((shadowWrite_idle (by rwa [State.accept_commit]) body).trans answer)

end

section
variable {h : CommandHeader} {o : OpenSession} {s : State} (new : NewCommand h o s) (idle : s.commit.state = .idle)
include new idle

/-- A record that passes the checks of R37 is stored as the rule it spells. -/
theorem writeRule_stores (n : Fin Config.bankSlots) {record : List Byte} (form : record.length = 25)
    (passed : firstFailing ((readRuleRecord record).bankFaults n.val) = none) :
    ∃ t, exec (.writeRule h (BitVec.ofNat 8 n.val :: record)) s = .next t ∧ Answers 0x20 h o .done [] [.shadow] s t
      ∧ t.shadow = s.shadow.withSlot n (some (readRuleRecord record).toRule) := by
  have answer := writeRuleBody_passes (s.accept .station) passed
  rw [State.accept_shadow] at answer
  exact shadowCommand_done (c := .writeRule) new idle (congrArg (· + 1) form) answer

end

/-- Settles O48: the commit state is tested first, then the fields in order, and a write replaces the shadow bank. -/
theorem shadowBankCommands : Obligations.ShadowBankCommands := by
  intro h o s new
  refine ⟨fun c args writes form pending => ?pending, fun idle => ⟨fun n r legal => ?rule,
    fun n record form passed => ?record, fun slot record place form first => ?badRecord, fun n => ?erase,
    fun b outside => ?badErase, ?clear, ?copy, fun p some few long short => ?params,
    fun args place meter form first => ?badParams⟩⟩
  case pending =>
    obtain ⟨body, row⟩ := exec_shadowRow writes h args s
    rw [row]
    exact command_answers new form (shadowWrite_pending (by rwa [State.accept_commit]) body)
  case rule =>
    have reads := readRuleRecord_ruleBytes legal
    have slot : n.val ≤ 127 := Nat.le_of_lt_succ n.isLt
    obtain ⟨t, taken, answers, shadow⟩ := writeRule_stores new idle n (ruleBytes_length r)
      (by rw [reads]; exact ruleRecordOf_bankFaults legal slot)
    rw [reads, ruleRecordOf_toRule legal.selector] at shadow
    exact ⟨t, taken, answers, shadow⟩
  case record =>
    have slot : (BitVec.ofNat 8 n.val).toNat = n.val := slotByte_toNat (by decide) n
    have checked := (bankFaults_places form (BitVec.ofNat 8 n.val)).firstFailing_none fun k _ _ => passed k
    rw [slot] at checked
    obtain ⟨t, taken, answers, shadow⟩ := writeRule_stores new idle n form checked
    exact ⟨t, _, taken, answers, rfl, RuleRecord.toRule_legal (readRuleRecord_places form) checked, shadow⟩
  case badRecord =>
    obtain ⟨low, high, fails, earlier⟩ := first
    have checked := (bankFaults_places form slot).firstFailing_some low high fails earlier
    exact shadowCommand_badField (c := .writeRule) new idle (congrArg (· + 1) form) (writeRuleBody_fails _ checked)
  case erase =>
    have answer := eraseRuleBody_valid (s.accept .station) n
    rw [State.accept_shadow] at answer
    exact shadowCommand_done (c := .eraseRule) new idle rfl answer
  case badErase => exact shadowCommand_badField (c := .eraseRule) new idle rfl (eraseRuleBody_invalid _ outside)
  case clear =>
    obtain ⟨t, taken, answers, shadow⟩ := shadowCommand_done (c := .clearShadow) (args := []) new idle rfl
      (body := fun s => s.clearShadow.answer .done []) rfl
    refine ⟨t, taken, answers, ?_, fun n => ?_⟩
    · rw [shadow, State.accept_shadow]
    · rw [shadow]; simp
  case copy =>
    obtain ⟨t, taken, answers, shadow⟩ := shadowCommand_done (c := .copyActiveToShadow) (args := []) new idle rfl
      (body := fun s => s.copyActive.answer .done []) rfl
    exact ⟨t, taken, answers, shadow.trans (State.accept_active _ _)⟩
  case params =>
    have answer := writeBankParamsBody_passes (s.accept .station) (paramsFault_paramsBytes few short some long)
    rw [readParams_paramsBytes few short, State.accept_shadow] at answer
    exact shadowCommand_done (c := .writeBankParams) new idle (paramsBytes_length p) answer
  case badParams =>
    exact shadowCommand_badField (c := .writeBankParams) new idle form
      (writeBankParamsBody_fails _ (first.paramsFault form))

end Sys2Proof.Machine
end

section
/-! PROOFS. The commands that change the fallback table (R41, R42). -/
namespace Sys2Proof.Machine

/-! ### The fallback table replaced -/

/-- The fallback table is replaced. -/
def State.setFallback (f : FallbackTable) (s : State) : State := { s with fallback := f }

theorem frame_setFallback (f : FallbackTable) (s : State) : SameBut [.fallback] s (s.setFallback f) := by
  intro p hp; cases p <;> simp_all [Part.Kept, State.setFallback, State.count]
  case link p => cases p <;> rfl

/-- The fallback table with one slot written or emptied. -/
def FallbackTable.withSlot (f : FallbackTable) (n : Fin Config.fallbackSlots) (r : Option FallbackRule) :
    FallbackTable :=
  { f with slots := f.slots.set n.val r n.isLt }

theorem State.putFallbackSlot_eq (n : Fin Config.fallbackSlots) (r : Option FallbackRule) (s : State) :
    s.putFallbackSlot n.val r = s.setFallback (s.fallback.withSlot n r) := dif_pos n.isLt

/-! ### The bodies of the commands -/

section
variable (s : State)

theorem writeFallbackRuleBody_passes {n : Fin Config.fallbackSlots} {record : List Byte}
    (passed : firstFailing ((readRuleRecord record).fallbackFaults n.val) = none) :
    writeFallbackRuleBody (BitVec.ofNat 8 n.val :: record) s
      = (s.setFallback (s.fallback.withSlot n (some (readRuleRecord record).toFallbackRule))).answer .done [] := by
  simp only [writeFallbackRuleBody, field_one, slotByte_toNat (by decide) n, List.drop_one, List.tail_cons, passed,
    State.putFallbackSlot_eq]

theorem writeFallbackRuleBody_fails {slot : Byte} {record : List Byte} {place : Nat}
    (failed : firstFailing ((readRuleRecord record).fallbackFaults slot.toNat) = some place) :
    writeFallbackRuleBody (slot :: record) s = s.answer .badField [BitVec.ofNat 8 place, 0] := by
  simp only [writeFallbackRuleBody, field_one, List.drop_one, List.tail_cons, failed, State.badField_eq]
  rfl

theorem eraseFallbackRuleBody_valid (n : Fin Config.fallbackSlots) : eraseFallbackRuleBody [BitVec.ofNat 8 n.val] s
    = (s.setFallback (s.fallback.withSlot n none)).answer .done [] := by
  have slot : ¬ 7 < n.val := by have := n.isLt; simp only [Config.fallbackSlots] at this; omega
  simp only [eraseFallbackRuleBody, field_one, slotByte_toNat (by decide) n, if_neg slot, State.putFallbackSlot_eq]

theorem eraseFallbackRuleBody_invalid {b : Byte} (outside : 7 < b.toNat) :
    eraseFallbackRuleBody [b] s = s.answer .badField [1, 0] := by
  simp only [eraseFallbackRuleBody, field_one, if_pos outside, State.badField_eq]
  rfl

theorem writeFallbackParamsBody_valid (m : MissAction) {b : Byte} (valid : b ≠ 0) : writeFallbackParamsBody [m.code, b] s
    = (s.setFallback { s.fallback with missAction := m, responseTimeout := b.toNat }).answer .done [] := by
  have miss : readMissAction (byteAt [m.code, b] 0) = some m := readMissAction_code m
  have notZero : b.toNat ≠ 0 := fun zero => valid (BitVec.eq_of_toNat_eq zero)
  simp only [writeFallbackParamsBody, miss, field_second, if_neg notZero]
  rfl

theorem writeFallbackParamsBody_miss {a : Byte} (outside : 2 < a.toNat) (b : Byte) :
    writeFallbackParamsBody [a, b] s = s.answer .badField [1, 0] := by
  have miss : readMissAction (byteAt [a, b] 0) = none :=
    Option.isNone_iff_eq_none.1 ((readMissAction_isNone a).trans (decide_eq_true outside))
  simp only [writeFallbackParamsBody, miss, State.badField_eq]
  rfl

theorem writeFallbackParamsBody_timeout {a : Byte} (inside : a.toNat ≤ 2) :
    writeFallbackParamsBody [a, 0] s = s.answer .badField [2, 0] := by
  have named : (readMissAction a).isNone = false :=
    (readMissAction_isNone a).trans (decide_eq_false (Nat.not_lt.2 inside))
  obtain ⟨m, miss⟩ := Option.isSome_iff_exists.1 (Option.isNone_eq_false_iff.1 named)
  have read : readMissAction (byteAt [a, 0] 0) = some m := miss
  have zero : (0 : Byte).toNat = 0 := rfl
  simp only [writeFallbackParamsBody, read, field_second, if_pos zero, State.badField_eq]
  rfl

end

/-! ### The first test, and the effect on the fallback table alone (R41) -/

theorem fallbackWrite_fallback {s : State} (mode : s.control.mode = .fallback) (body : State → Answered) :
    fallbackWrite body s = s.answer .inFallback [] := by simp only [fallbackWrite, mode]

theorem fallbackWrite_governed {s : State} (mode : s.control.mode = .governed) (body : State → Answered) :
    fallbackWrite body s = body s := by simp only [fallbackWrite, mode]

/-- Each of the three commands makes the test of a fallback write first. -/
theorem exec_fallbackRow {c : CommandName}
    (writes : c ∈ [CommandName.writeFallbackRule, .eraseFallbackRule, .writeFallbackParams])
    (h : CommandHeader) (args : List Byte) (s : State) :
    ∃ body, exec (c.row h args) s = command c h args (fallbackWrite body) s := by
  simp only [List.mem_cons, List.not_mem_nil, or_false] at writes
  obtain rfl | rfl | rfl := writes
  all_goals exact ⟨_, rfl⟩

section
variable {h : CommandHeader} {o : OpenSession} {s : State} {c : CommandName} {args : List Byte}
  {body : State → Answered} (new : NewCommand h o s) (mode : s.control.mode = .governed)
  (form : args.length = c.argBytes)
include new mode form

/-- A fallback write that passes its checks is answered DONE and leaves the table it wrote. -/
theorem fallbackCommand_done {f : FallbackTable} (answer : body (s.accept .station)
      = ((s.accept .station).setFallback f).answer .done []) :
    ∃ t, command c h args (fallbackWrite body) s = .next t ∧ Answers c.code h o .done [] [.fallback] s t
      ∧ t.fallback = f := by
  obtain ⟨t, taken, answers, after⟩ := command_sets new c args form
    ((fallbackWrite_governed (by rwa [State.accept_control]) body).trans answer) (frame_setFallback f _) (by decide)
  exact ⟨t, taken, answers, after .fallback (by decide)⟩

/-- A fallback write that fails a check is answered BAD_FIELD. -/
theorem fallbackCommand_badField {payload : List Byte} (answer : body (s.accept .station)
      = (s.accept .station).answer .badField payload) :
    ∃ t, command c h args (fallbackWrite body) s = .next t ∧ Answers c.code h o .badField payload [] s t :=
  command_answers new form ((fallbackWrite_governed (by rwa [State.accept_control]) body).trans answer)

end

section
variable {h : CommandHeader} {o : OpenSession} {s : State} (new : NewCommand h o s)
  (mode : s.control.mode = .governed)
include new mode

/-- A record that passes the checks of R42 is stored as the fallback rule it spells. -/
theorem writeFallbackRule_stores (n : Fin Config.fallbackSlots) {record : List Byte} (form : record.length = 25)
    (passed : firstFailing ((readRuleRecord record).fallbackFaults n.val) = none) :
    ∃ t, exec (.writeFallbackRule h (BitVec.ofNat 8 n.val :: record)) s = .next t
      ∧ Answers 0x28 h o .done [] [.fallback] s t
      ∧ t.fallback = s.fallback.withSlot n (some (readRuleRecord record).toFallbackRule) := by
  have answer := writeFallbackRuleBody_passes (s.accept .station) passed
  rw [State.accept_fallback] at answer
  exact fallbackCommand_done (c := .writeFallbackRule) new mode (congrArg (· + 1) form) answer

end

/-- Settles O49: the mode is tested first, then the fields in order, and a write replaces the fallback table. -/
theorem fallbackTableCommands : Obligations.FallbackTableCommands := by
  intro h o s new
  refine ⟨fun c args writes form mode => ?inFallback, fun mode => ⟨fun n r legal => ?rule,
    fun n record form passed => ?record, fun slot record place form first => ?badRecord, fun n => ?erase,
    fun b outside => ?badErase, fun m b valid => ?params, fun a b outside => ?badMiss, fun a inside => ?badTimeout⟩⟩
  case inFallback =>
    obtain ⟨body, row⟩ := exec_fallbackRow writes h args s
    rw [row]
    exact command_answers new form (fallbackWrite_fallback (by rwa [State.accept_control]) body)
  case rule =>
    have reads := readRuleRecord_ruleBytes (FallbackRule.toRule_legal legal)
    have slot : n.val ≤ 7 := Nat.le_of_lt_succ n.isLt
    obtain ⟨t, taken, answers, table⟩ := writeFallbackRule_stores new mode n (ruleBytes_length r.toRule)
      (by rw [reads]; exact ruleRecordOf_fallbackFaults legal slot)
    rw [reads, ruleRecordOf_toFallbackRule legal] at table
    exact ⟨t, taken, answers, table⟩
  case record =>
    have slot : (BitVec.ofNat 8 n.val).toNat = n.val := slotByte_toNat (by decide) n
    have checked := (fallbackFaults_places form (BitVec.ofNat 8 n.val)).firstFailing_none fun k _ _ => passed k
    rw [slot] at checked
    obtain ⟨t, taken, answers, table⟩ := writeFallbackRule_stores new mode n form checked
    exact ⟨t, _, taken, answers, rfl, RuleRecord.toFallbackRule_legal (readRuleRecord_places form) checked, table⟩
  case badRecord =>
    obtain ⟨low, high, fails, earlier⟩ := first
    have checked := (fallbackFaults_places form slot).firstFailing_some low high fails earlier
    exact fallbackCommand_badField (c := .writeFallbackRule) new mode (congrArg (· + 1) form)
      (writeFallbackRuleBody_fails _ checked)
  case erase =>
    have answer := eraseFallbackRuleBody_valid (s.accept .station) n
    rw [State.accept_fallback] at answer
    exact fallbackCommand_done (c := .eraseFallbackRule) new mode rfl answer
  case badErase =>
    exact fallbackCommand_badField (c := .eraseFallbackRule) new mode rfl (eraseFallbackRuleBody_invalid _ outside)
  case params =>
    have answer := writeFallbackParamsBody_valid (s.accept .station) m valid
    rw [State.accept_fallback] at answer
    exact fallbackCommand_done (c := .writeFallbackParams) new mode rfl answer
  case badMiss =>
    exact fallbackCommand_badField (c := .writeFallbackParams) new mode rfl (writeFallbackParamsBody_miss _ outside b)
  case badTimeout =>
    exact fallbackCommand_badField (c := .writeFallbackParams) new mode rfl (writeFallbackParamsBody_timeout _ inside)

end Sys2Proof.Machine
end
